-- ==== Sys2Proof/Word.lean ====
section
/-! DEFINITION. The byte of the W612's links and records, and the fixed-length table the state is built on. -/

namespace Sys2Proof

/-- One character's data bits: a byte of a frame, of a record image or of the settings store. -/
abbrev Byte := BitVec 8

/-- A sixteen-bit field of a frame: a field mask, a subscription mask, a check. -/
abbrev Half := BitVec 16

/-- The byte that holds `n` modulo 256. -/
def byte (n : Nat) : Byte := BitVec.ofNat 8 n

/-- A table of `n` rows given by its rows. It is made of a list, so that the kernel evaluates it. -/
def vtab {α : Type} {n : Nat} (f : Fin n → α) : Vector α n := ⟨⟨List.ofFn f⟩, by simp⟩

@[simp] theorem vtab_get {α : Type} {n : Nat} (f : Fin n → α) (i : Fin n) : (vtab f)[i] = f i := by
  simp [vtab]

@[simp] theorem vtab_getElem {α : Type} {n : Nat} (f : Fin n → α) (i : Nat) (h : i < n) :
    (vtab f)[i] = f ⟨i, h⟩ := by
  simp [vtab]

end Sys2Proof
end

