-- ==== Sys2Proof/Syntax.lean ====
section
/-! DEFINITION. The commands of the W612: one constructor of `Instr` for each row of the opcode table. A request of
a master carries the port it is sent on, its tag and its body's fields as bytes; an event of the part's own inputs
carries what the input shows; a timer's expiry carries what names the timer. -/

namespace Sys2Proof

/-- The three ports; the role of each is fixed (R161). -/
inductive PortId where
  | panel | remote | vehicle
  deriving DecidableEq, Repr

/-- The two actuators: MOTION 0 and MOTION 1 (section 6.1). -/
inductive Actuator where
  | awning | step
  deriving DecidableEq, Repr

/-- The two end switches of an actuator (section 6.1). -/
inductive EndSwitch where
  | stowed | deployed
  deriving DecidableEq, Repr

/-- The three tanks: TANK 0, 1 and 2 (section 4.1). -/
inductive TankId where
  | fresh | grey | black
  deriving DecidableEq, Repr

/-- One conversion set (R1): each channel's raw conversion in the channel's unit, or none where the front end finds
the input open or shorted. The front end itself forms value and validity from it (R2). -/
structure Sample where
  battI : Option Int
  battV : Option Int
  srcShore : Option Int
  srcAlt : Option Int
  srcSolar : Option Int
  tBattery : Option Int
  tCabin : Option Int
  tWaterBay : Option Int
  tOutside : Option Int
  tExhaust : Option Int
  motorI : Option Int
  deriving DecidableEq, Repr

/-- The lines the part reads as they stand when supply arrives (R32, R77, R113); true is ACTIVE. -/
structure Lines where
  shore : Bool
  pressure : Bool
  awningStowed : Bool
  awningDeployed : Bool
  stepStowed : Bool
  stepDeployed : Bool
  deriving DecidableEq, Repr

/-- A frame that has passed its check, less its sync and check bytes (section 9.3). -/
structure Frame where
  kind : Byte
  tag : Byte
  body : List Byte
  deriving DecidableEq, Repr

/-- The commands, in the table's order. -/
inductive Instr where
  | powerOn (lines : Lines)
  | sampleEvent (x : Sample)
  | restCorrection
  | fullChargeSync
  | temperatureAbsenceLimit
  | inhibitNoSensor
  | drive (p : PortId) (tag ignition engine cranking handbrake : Byte) (speed : Half)
  | crankLong
  | reportStaleness
  | shorePresentChange (active : Bool)
  | lvdEntry
  | lvdExit
  | loadSet (p : PortId) (tag entry switch : Byte)
  | scanStart (t : TankId)
  | scanCompletion (t : TankId) (wet : Byte)
  | flowPulse
  | pressureSwitchChange (active : Bool)
  | dryLock
  | pump (p : PortId) (tag switch : Byte)
  | heat (p : PortId) (tag mode : Byte) (setpoint : Half)
  | glowEnd
  | failedStart
  | flameOut
  | purgeEnd
  | clearLockout (p : PortId) (tag : Byte)
  | cabinSensorLost
  | waterHoldExpiry
  | openDrain (p : PortId) (tag : Byte)
  | closeDrain (p : PortId) (tag : Byte)
  | endSwitchChange (a : Actuator) (w : EndSwitch) (active : Bool)
  | move (p : PortId) (tag actuator direction : Byte)
  | reversalEnd (a : Actuator)
  | grantWaitExpiry (a : Actuator)
  | stall (a : Actuator)
  | travelTime (a : Actuator)
  | stopMotion (p : PortId) (tag actuator : Byte)
  | clearFault (p : PortId) (tag actuator : Byte)
  | scene (p : PortId) (tag number scope : Byte)
  | levels (p : PortId) (tag first last mode : Byte) (list : List Byte)
  | frameBoundary
  | call (p : PortId) (tag routine : Byte)
  | waitStepExpiry
  | withdraw (p : PortId) (tag : Byte)
  | cancel (p : PortId) (tag : Byte)
  | startBitWake (p : PortId)
  | characterReceived (p : PortId) (data : Byte) (parity stop : Bool)
  | lineBreak (p : PortId)
  | frameArrival (p : PortId) (kind tag : Byte) (body : List Byte)
  | frameSent (p : PortId)
  | attach (p : PortId) (tag level : Byte) (mask : Half)
  | detach (p : PortId) (tag : Byte)
  | restart (p : PortId) (tag : Byte)
  | restartEffect
  | read (p : PortId) (tag cls first count : Byte)
  | write (p : PortId) (tag cls index : Byte) (mask : Half) (values : List Byte)
  | writeBattery (p : PortId) (tag index : Byte) (mask : Half) (values : List Byte)
  | writeBudget (p : PortId) (tag index : Byte) (mask : Half) (values : List Byte)
  | writeLoad (p : PortId) (tag index : Byte) (mask : Half) (values : List Byte)
  | writeTank (p : PortId) (tag index : Byte) (mask : Half) (values : List Byte)
  | writeWater (p : PortId) (tag index : Byte) (mask : Half) (values : List Byte)
  | writeHeater (p : PortId) (tag index : Byte) (mask : Half) (values : List Byte)
  | writeMotion (p : PortId) (tag index : Byte) (mask : Half) (values : List Byte)
  | writeChannel (p : PortId) (tag index : Byte) (mask : Half) (values : List Byte)
  | writeScene (p : PortId) (tag index : Byte) (mask : Half) (values : List Byte)
  | writeRoutine (p : PortId) (tag index : Byte) (mask : Half) (values : List Byte)
  | save (p : PortId) (tag : Byte)
  | saveCompletion
  | parkedSleepEntry
  | supplyLoss
  | receiveLineHigh (p : PortId)
  deriving DecidableEq, Repr

end Sys2Proof
end

