-- ==== Sys2Proof/Config.lean ====
section
/-! DEFINITION. The constants of the W612: limits and periods in milliseconds, the battery's band tables, the
entries' fixed ratings, the link's sizes and codes. Nothing here is left open by the spec: the W612's manual
leaves no value of an operation unstated, so that there is no free value (no opaque constant). -/

namespace Sys2Proof.Config

/-- The measurement sample period awake and in parked sleep (R1). -/
def samplePeriodAwake : Nat := 200
def samplePeriodAsleep : Nat := 2000

/-- The absence, hold and full-sync limit of 60 s (R14, R20, R34, R101, R103). -/
def minute : Nat := 60000

/-- The rest limit of the battery current, in cA (R17). -/
def restCurrent : Nat := 20

/-- The battery current, in cA, from which a sample keeps the part awake (R189, section 11.1). -/
def wakeCurrent : Nat := 100

/-- The crank limit (R27), report staleness (R28) and the stop of the shown report age (R28). -/
def crankLimit : Nat := 15000
def stalenessLimit : Nat := 5000
def reportAgeStop : Nat := 600000

/-- The admission margin, in cA (R56, R59). -/
def admissionMargin : Nat := 200

/-- The pass count at which a waiting entry is a blocker (R57). -/
def passLimit : Nat := 4

/-- Low-voltage disconnect: entry after 30 s, exit after 60 s at 800 mV above V_lvd (R63). -/
def lvdEntryLimit : Nat := 30000
def lvdExitLimit : Nat := 60000
def lvdExitMargin : Nat := 800

/-- Tank scans: the two scan periods and the settle (R69). -/
def scanPeriodAwake : Nat := 10000
def scanPeriodAsleep : Nat := 60000
def scanSettle : Nat := 50

/-- The pump's dry limits: at step 0, and above 0 or UNKNOWN (R81). -/
def dryLimitEmpty : Nat := 20000
def dryLimit : Nat := 120000

/-- The counters of WATER 0 stop here (R75, R76). -/
def counterStop : Nat := 4294967295

/-- The heater's phases (R92, R93, R95, R96). -/
def glowTime : Nat := 45000
def igniteTime : Nat := 90000
def flameOutTime : Nat := 20000
def purgeTime : Nat := 120000

/-- The exhaust temperatures that show a flame and keep it, in tenths of a degree (R93, R95). -/
def flameExhaust : Int := 800
def flameKeep : Int := 600

/-- Motion: the reversal pause, the grant wait, the stall limit (R117, R118, R120). -/
def reversalTime : Nat := 500
def grantWaitTime : Nat := 30000
def stallTime : Nat := 300

/-- The frame boundary's period (R136). -/
def framePeriod : Nat := 10

/-- The longest list of a LEVELS (R138). -/
def maxLevels : Nat := 40

/-- The duty of a channel that is always on, the square of 255 (section 7.1). -/
def fullDuty : Nat := 65025

/-- The sixteen-bit counters of the ports stop here (R161, R138). -/
def portCounterStop : Nat := 65535

/-- The longest body of a frame (section 9.3). -/
def maxBody : Nat := 48

/-- The most bytes of images in one answer (R177). -/
def maxImages : Nat := 46

/-- The zero run that abandons a frame (R165). -/
def resyncRun : Nat := 4

/-- The parked sleep block's idle limit (R187). -/
def idleLimit : Nat := 60000

/-- A save completes at most this long after it was taken (R184). -/
def saveLimit : Nat := 400

/-- The time that passes at a step on an empty queue, in ms. DESIGN CHOICE (log entry 2): one millisecond, the unit
of the part's timers. -/
def tickTime : Nat := 1

/-- The most rows of the admission and routine work an event carries from block to block (log entry 6). -/
def handFuel : Nat := 4000

/-- The family identity and the revision carried by the DONE of an ATTACH (R185). -/
def familyHigh : Nat := 0x57
def familyLow : Nat := 0x06
def revision : Nat := 1

end Sys2Proof.Config
end

