-- ==== Sys2Proof/Machine/Settings.lean ====
section
/-! DEFINITION. The working settings (section 10.4), their store defaults, the ranges and orders by which a WRITE and
a load of the store are judged (R180, R181), and the step lists of routines (section 8.1). -/

namespace Sys2Proof.Machine

/-- The battery chemistry (section 1.3). -/
inductive Chemistry where
  | lead | lfp
  deriving DecidableEq, Repr

/-- BATTERY 0 (sections 1.3 and 3.4): capacity in Ah, voltages in mV, proportions in per mille, rest time in s. -/
structure BatterySettings where
  chem : Chemistry
  cnom : Nat
  ocv : List Nat
  eta : Nat
  fullV : Nat
  restTime : Nat
  weight : Nat
  comfort : Nat
  reserve : Nat
  vLvd : Nat
  deriving DecidableEq, Repr

/-- The admission class of an entry, in its image's order (section 10.6). -/
inductive LoadClass where
  | prot | essential | comfort | deferrable
  deriving DecidableEq, Repr

/-- The settings of one general output entry, 7 to 19 (R40). -/
structure GeneralSettings where
  cls : LoadClass
  rating : Nat
  rank : Nat
  deriving DecidableEq, Repr

/-- The LOAD settings: the ranks of entries 1, 3 and 5, and entries 7 to 19 (R39, R40). -/
structure LoadSettings where
  rank1 : Nat
  rank3 : Nat
  rank5 : Nat
  general : Vector GeneralSettings 13
  deriving DecidableEq, Repr

/-- A tank's electrode count and its volume marks M[1] to M[n] with the capacity last (section 4.1). -/
structure TankSettings where
  count : Nat
  marks : List Nat
  deriving DecidableEq, Repr

/-- A motion record's travel limit, in tenths of a second, and its stall threshold, in cA (section 6.1). -/
structure MotionSettings where
  travelLimit : Nat
  stallThreshold : Nat
  deriving DecidableEq, Repr

/-- The four zone bounds (section 7.2). -/
structure ZoneBounds where
  aFirst : Nat
  aLast : Nat
  bFirst : Nat
  bLast : Nat
  deriving DecidableEq, Repr

/-- The lighting settings: rated currents, zone bounds, night level (R131, R132, R143). -/
structure LightSettings where
  rated : Vector Nat 12
  bounds : ZoneBounds
  night : Nat
  deriving DecidableEq, Repr

/-- A scene: twelve levels and a fade time in tenths of a second (section 7.3). -/
structure SceneSettings where
  levels : Vector Nat 12
  fade : Nat
  deriving DecidableEq, Repr

/-- The two directions of a motion (R114), in the request's code order. -/
inductive Direction where
  | deploy | stow
  deriving DecidableEq, Repr

/-- The scope of a SCENE (R134), in the request's code order. -/
inductive Scope where
  | all | zoneA | zoneB
  deriving DecidableEq, Repr

/-- A routine's step: eight kinds with their arguments (section 8.1). -/
inductive RStep where
  | move (a : Actuator) (d : Direction)
  | scene (n : Nat) (scope : Scope)
  | load (entry : Nat) (on : Bool)
  | pump (on : Bool)
  | heat (comfort : Bool) (setpoint : Option Int)
  | openDrain
  | wait (seconds : Nat)
  | requireParked
  deriving DecidableEq, Repr

/-- The working settings (section 10.4). -/
structure Settings where
  battery : BatterySettings
  bmax : Nat
  bcap : Nat
  loads : LoadSettings
  fresh : TankSettings
  grey : TankSettings
  black : TankSettings
  pulseVolume : Nat
  setpoint : Int
  frostGuard : Bool
  awning : MotionSettings
  step : MotionSettings
  light : LightSettings
  scenes : Vector SceneSettings 8
  routines : Vector (List RStep) 5
  deriving DecidableEq, Repr

/-- The per-chemistry defaults over a given capacity (sections 1.3 and 3.4). -/
def BatterySettings.defaults : Chemistry → Nat → BatterySettings
  | .lead, cnom =>
    { chem := .lead, cnom := cnom
      ocv := [11800, 11950, 12050, 12150, 12240, 12320, 12400, 12480, 12560, 12640, 12730]
      eta := 850, fullV := 14200, restTime := 7200, weight := 700
      comfort := 500, reserve := 300, vLvd := 11600 }
  | .lfp, cnom =>
    { chem := .lfp, cnom := cnom
      ocv := [12000, 12800, 12950, 13050, 13100, 13150, 13200, 13250, 13300, 13350, 13600]
      eta := 990, fullV := 14000, restTime := 1800, weight := 500
      comfort := 200, reserve := 100, vLvd := 12000 }

/-- The store defaults of a general entry: COMFORT, 100 cA, rank 4 upward in entry order (R40). -/
def GeneralSettings.default (i : Fin 13) : GeneralSettings :=
  { cls := .comfort, rating := 100, rank := 4 + i.val }

def TankSettings.freshDefault : TankSettings :=
  { count := 8, marks := [4000, 14000, 26000, 38000, 50000, 62000, 74000, 86000, 95000] }

def TankSettings.greyDefault : TankSettings :=
  { count := 4, marks := [10000, 30000, 50000, 65000, 75000] }

def TankSettings.blackDefault : TankSettings :=
  { count := 4, marks := [3000, 8000, 13000, 17000, 19000] }

/-- The store defaults, each from its own chapter (R181). -/
def Settings.defaults : Settings :=
  { battery := .defaults .lead 100
    bmax := 4000
    bcap := 7000
    loads := { rank1 := 3, rank3 := 2, rank5 := 1, general := vtab GeneralSettings.default }
    fresh := .freshDefault
    grey := .greyDefault
    black := .blackDefault
    pulseVolume := 2
    setpoint := 200
    frostGuard := true
    awning := { travelLimit := 400, stallThreshold := 1800 }
    step := { travelLimit := 60, stallThreshold := 1000 }
    light := { rated := vtab fun _ => 0
               bounds := { aFirst := 0, aLast := 5, bFirst := 6, bLast := 11 }
               night := 20 }
    scenes := vtab fun _ => { levels := vtab fun _ => 0, fade := 10 }
    routines := vtab fun _ => [] }

/-- `lo ≤ x ≤ hi`. -/
def inRange (lo hi x : Nat) : Bool := lo ≤ x && x ≤ hi

/-- Strictly increasing (R6, R68). -/
def strictlyIncreasing : List Nat → Bool
  | [] => true
  | [_] => true
  | a :: b :: rest => a < b && strictlyIncreasing (b :: rest)

/-- The ranges and orders of BATTERY 0 (R6, R53). -/
def BatterySettings.valid (b : BatterySettings) : Bool :=
  inRange 20 800 b.cnom && b.ocv.length == 11 && b.ocv.all (inRange 8000 17000) && strictlyIncreasing b.ocv
    && inRange 500 1000 b.eta && inRange 12000 15500 b.fullV && inRange 60 36000 b.restTime
    && inRange 0 1000 b.weight && inRange 0 1000 b.comfort && inRange 0 1000 b.reserve
    && inRange 10500 12500 b.vLvd && decide (b.reserve < b.comfort)

/-- The ranges of a general entry: not PROTECTED, at most 2000 cA, rank 1 to 20 (R40). -/
def GeneralSettings.valid (g : GeneralSettings) : Bool :=
  g.cls != .prot && inRange 0 2000 g.rating && inRange 1 20 g.rank

/-- The ranks in force: entries 1, 3 and 5, and each COMFORT general entry (R39). -/
def LoadSettings.ranksInForce (l : LoadSettings) : List Nat :=
  [l.rank1, l.rank3, l.rank5] ++ (l.general.toList.filter (fun g => g.cls == .comfort)).map (·.rank)

/-- No value stands twice in the list. -/
def allDistinct : List Nat → Bool
  | [] => true
  | a :: rest => !rest.contains a && allDistinct rest

/-- The ranges of the LOAD settings and the distinctness of the ranks in force (R39, R40). -/
def LoadSettings.valid (l : LoadSettings) : Bool :=
  inRange 1 20 l.rank1 && inRange 1 20 l.rank3 && inRange 1 20 l.rank5 && l.general.toList.all (·.valid)
    && allDistinct l.ranksInForce

/-- R68's judgement of an electrode count and a marks list. -/
def TankSettings.valid (t : TankSettings) : Bool :=
  inRange 2 8 t.count && t.marks.all (inRange 1 1000000) && t.marks.length == t.count + 1
    && strictlyIncreasing t.marks

/-- The ranges of a motion record's settings (R121, R129). -/
def MotionSettings.valid (m : MotionSettings) : Bool :=
  inRange 10 600 m.travelLimit && inRange 100 5000 m.stallThreshold

/-- The order of the zone bounds (R132). -/
def ZoneBounds.valid (z : ZoneBounds) : Bool :=
  decide (z.aFirst ≤ z.aLast) && decide (z.aLast < z.bFirst) && decide (z.bFirst ≤ z.bLast) && decide (z.bLast ≤ 11)

/-- The ranges of the lighting settings (R131, R132, R143). -/
def LightSettings.valid (l : LightSettings) : Bool :=
  l.rated.toList.all (inRange 0 1000) && l.bounds.valid && inRange 0 255 l.night

/-- The ranges of a scene (R133). -/
def SceneSettings.valid (c : SceneSettings) : Bool :=
  c.levels.toList.all (inRange 0 255) && inRange 0 255 c.fade

/-- The arguments of a routine's step lie within what its kind names (R150). -/
def RStep.valid : RStep → Bool
  | .move _ _ => true
  | .scene n _ => inRange 0 7 n
  | .load e _ => inRange 7 19 e
  | .pump _ => true
  | .heat _ none => true
  | .heat _ (some t) => decide (50 ≤ t) && decide (t ≤ 300)
  | .openDrain => true
  | .wait n => inRange 1 600 n
  | .requireParked => true

/-- At most twelve steps, each of them valid (R150). -/
def routineValid (steps : List RStep) : Bool := decide (steps.length ≤ 12) && steps.all (·.valid)

/-- Every value lies within its field's range and order as R180 judges them (R181). -/
def Settings.valid (t : Settings) : Bool :=
  t.battery.valid && inRange 0 7000 t.bmax && inRange 1000 10000 t.bcap && t.loads.valid
    && t.fresh.valid && t.grey.valid && t.black.valid && inRange 1 50 t.pulseVolume
    && decide (50 ≤ t.setpoint) && decide (t.setpoint ≤ 300)
    && t.awning.valid && t.step.valid && t.light.valid
    && t.scenes.toList.all (·.valid) && t.routines.toList.all routineValid

/-- The class an entry stands in before any request for it (section 3.1): the fixed entries' class, and a general
entry's setting. DESIGN CHOICE (log entry 8): entry 1 shows COMFORT and entry 2 ESSENTIAL. -/
def Settings.restClass (t : Settings) (i : Fin 20) : LoadClass :=
  match i.val with
  | 0 => .prot
  | 1 => .comfort
  | 2 => .essential
  | 3 => .comfort
  | 4 => .essential
  | 5 => .comfort
  | 6 => .deferrable
  | _ => if h : i.val - 7 < 13 then t.loads.general[i.val - 7].cls else .comfort

/-- The rating an entry shows before any request for it (section 3.1). DESIGN CHOICE (log entry 8): entry 1 shows the
awning's 1200 and entry 2 the LOW fan's 80. -/
def Settings.restRating (t : Settings) (i : Fin 20) : Nat :=
  match i.val with
  | 0 => 30
  | 1 => 1200
  | 2 => 80
  | 3 => 800
  | 4 => 500
  | 5 => 0
  | 6 => 600
  | _ => if h : i.val - 7 < 13 then t.loads.general[i.val - 7].rating else 0

/-- The rank of an entry, absent on entries 0, 2, 4 and 6 (section 3.1). -/
def Settings.rank (t : Settings) (i : Fin 20) : Option Nat :=
  match i.val with
  | 0 => none
  | 1 => some t.loads.rank1
  | 2 => none
  | 3 => some t.loads.rank3
  | 4 => none
  | 5 => some t.loads.rank5
  | 6 => none
  | _ => if h : i.val - 7 < 13 then some t.loads.general[i.val - 7].rank else none

/-- The bands' lower boundaries, warmest first, in tenths of a degree; the coldest band has none (section 1.6). -/
def bandLowers : Chemistry → List Int
  | .lead => [250, 150, 50, -50, -150]
  | .lfp => [150, 50, -50]

/-- The bands' capacity factors k, in per mille, warmest first (section 1.6). -/
def bandFactors : Chemistry → List Nat
  | .lead => [1000, 950, 900, 820, 720, 600]
  | .lfp => [1000, 970, 900, 800]

/-- The index of the band of the chemistry's table that contains the temperature (section 1.6). -/
def bandContaining (c : Chemistry) (temp : Int) : Nat :=
  ((bandLowers c).filter (fun lower => decide (temp < lower))).length

/-- The capacity factor of a band (section 1.6). -/
def bandFactor (c : Chemistry) (band : Nat) : Nat := (bandFactors c).getD band 0

/-- R12: C_t = C_nom x 3600 x k. -/
def capacity (cnom k : Nat) : Nat := cnom * 3600 * k

end Sys2Proof.Machine
end

