-- ==== Sys2Proof/Machine/State.lean ====
section
/-! DEFINITION. The state of the W612 as plain data: every record, list, timer, mark and line the spec gives its
blocks, the masters' links and the settings store, with the queue of waiting commands; and the state after reset.
INVENTORY.md names the rule behind each field. Timers are in milliseconds. -/

namespace Sys2Proof.Machine

/-- One value for each port. -/
structure PerPort (α : Type) where
  panel : α
  remote : α
  vehicle : α
  deriving DecidableEq, Repr

/-- One value for each actuator. -/
structure PerActuator (α : Type) where
  awning : α
  step : α
  deriving DecidableEq, Repr

/-- One value for each tank. -/
structure PerTank (α : Type) where
  fresh : α
  grey : α
  black : α
  deriving DecidableEq, Repr

/-- The validity a channel's value carries (R2), in its image's order. -/
inductive Validity where
  | valid | saturated | absent
  deriving DecidableEq, Repr

/-- The battery account (sections 1.2 to 1.11): the ACCOUNT record, and the chemistry and capacity as the account has
taken them (R7) with whether a battery temperature has been seen since power-on (R7). -/
structure Account where
  q : Nat
  ct : Nat
  band : Nat
  k : Nat
  soc : Nat
  socEff : Nat
  calibrated : Bool
  estimated : Bool
  restTimer : Nat
  syncTimer : Nat
  syncLatched : Bool
  tempAbsence : Nat
  lastI : Int
  lastV : Int
  lastT : Int
  validI : Validity
  validV : Validity
  validT : Validity
  chem : Chemistry
  cnom : Nat
  tempSeen : Bool
  deriving DecidableEq, Repr

/-- The drive state (section 2.4), in its image's order. -/
inductive DriveState where
  | parked | ready | cranking | moving | unknown
  deriving DecidableEq, Repr

/-- The inhibit cause (R38). -/
inductive InhibitCause where
  | none | cold | noSensor
  deriving DecidableEq, Repr

/-- A charge path's disable cause (R33, R38). -/
inductive DisableCause where
  | none | inhibit | noShore | engineOff | driveState
  deriving DecidableEq, Repr

/-- A SOURCE record (R38). -/
structure Source where
  enabled : Bool
  cause : DisableCause
  current : Int
  validity : Validity
  deriving DecidableEq, Repr

/-- Drive state and charge paths (chapter 2): the DRIVE record and the three SOURCE records, the inhibit absence time
(R34) and the chemistry this block has taken (R35). `age` counts the time since the last report taken (R28, R29). -/
structure DriveSide where
  state : DriveState
  ignition : Bool
  engine : Bool
  cranking : Bool
  handbrake : Bool
  speed : Nat
  reported : Bool
  age : Nat
  crankTimer : Nat
  crankLong : Bool
  crankLatch : Bool
  shore : Bool
  inhibit : Bool
  inhibitCause : InhibitCause
  inhibitAbsence : Nat
  chem : Chemistry
  isrc : Nat
  f : Nat
  outside : Option Int
  shoreSource : Source
  altSource : Source
  solarSource : Source
  deriving DecidableEq, Repr

/-- Where a load entry stands (section 3.1), in its image's order. -/
inductive EntryState where
  | off | waiting | granted | shed
  deriving DecidableEq, Repr

/-- One load entry's own fields (section 3.1); number, owner, rank, queue position and entry 5's lighting fields are
read from elsewhere. The grant is the current held (for entry 5, without its floor grant), 0 when none is held. -/
structure Entry where
  cls : LoadClass
  rating : Nat
  state : EntryState
  grant : Nat
  pass : Nat
  deriving DecidableEq, Repr

/-- The budget band OPEN, TAPER or CLOSED (R52), in its image's order. -/
inductive Band where
  | opened | taper | closed
  deriving DecidableEq, Repr

/-- The causes with which a change of grant is handed to its owner (R47). -/
inductive Cause where
  | granted | shed | lvd | cut | part
  deriving DecidableEq, Repr

/-- A change of grant made and not yet handed, with its cause and the amounts then held (R47): the entry's grant, which is
0 where the change removed it, and for entry 5 its elastic grant with the floor grant beside it (R144). -/
structure GrantChange where
  entry : Fin 20
  cause : Cause
  floor : Nat
  amount : Nat
  deriving DecidableEq, Repr

/-- The admission controller (chapter 3): the load table, the three lists, lighting's floor and elastic parts, the
disconnect state and timers, the budget as last computed, and the changes of grant not yet handed to their owners
(the model's own field: empty between commands). -/
structure Adm where
  entries : Vector Entry 20
  queue : List (Fin 20)
  granted : List (Fin 20)
  resume : List (Fin 20)
  floorGrant : Nat
  floorWanted : Nat
  elasticWanted : Nat
  lvd : Bool
  entryTimer : Nat
  exitTimer : Nat
  budget : Nat
  band : Band
  factor : Nat
  socUsed : Nat
  fUsed : Nat
  changes : List GrantChange
  deriving DecidableEq, Repr

/-- A tank's scan (R69): none under way, in its settle, or in a settle that a WRITE has voided (R68). -/
inductive Settle where
  | idle | settling | void
  deriving DecidableEq, Repr

/-- A TANK record less its settings (R86), with its scan timer and the period it runs to (R69). -/
structure TankRec where
  step : Option Nat
  last : Option Nat
  readings : List Bool
  gap : Bool
  full : Bool
  settle : Settle
  settleTime : Nat
  scanTimer : Nat
  scanPeriod : Nat
  deriving DecidableEq, Repr

/-- The pump state (section 4.5), in its image's order. -/
inductive PumpState where
  | disabled | ready | running | dryLock | frostLock
  deriving DecidableEq, Repr

/-- The pump's lock cause (section 4.5). -/
inductive LockCause where
  | none | dry | frost
  deriving DecidableEq, Repr

/-- WATER 0 less its setting and its drain fields (R86), with the fresh volume estimate (R74). -/
structure Water where
  pump : PumpState
  lock : LockCause
  demand : Bool
  requested : Bool
  dryTimer : Nat
  pulses : Nat
  drawn : Nat
  vEst : Option Nat
  asking : Bool
  deriving DecidableEq, Repr

/-- The heater's modes (section 5.1). -/
inductive HeatMode where
  | off | comfort | frostKeep
  deriving DecidableEq, Repr

/-- The heater's states (section 5.2). -/
inductive HeaterState where
  | off | waitGrant | glow | ignite | run | purge | standby | lockout
  deriving DecidableEq, Repr

/-- The purge reasons (R110). -/
inductive PurgeReason where
  | none | failedStart | flameOut | satisfied | modeOff | lvd | restart
  deriving DecidableEq, Repr

/-- The thermostat's demand (R94). -/
inductive Demand where
  | low | medium | high
  deriving DecidableEq, Repr

/-- The lockout cause (R98). -/
inductive LockoutCause where
  | none | startFail | flameOut
  deriving DecidableEq, Repr

/-- The heater (sections 5.1 to 5.7). `cabin` is the cabin temperature in use, none when it has no value (R101). -/
structure Heater where
  mode : HeatMode
  state : HeaterState
  phase : Nat
  reason : PurgeReason
  attempts : Nat
  demand : Option Demand
  flameRunning : Bool
  flameTimer : Nat
  lockout : LockoutCause
  cabin : Option Int
  cabinAbsence : Nat
  deriving DecidableEq, Repr

/-- The source of the water temperature in use (R103). -/
inductive WaterSource where
  | waterBay | cabin | held | none
  deriving DecidableEq, Repr

/-- The drain reason (section 5.10). -/
inductive DrainReason where
  | power | frost | sensor | request | none
  deriving DecidableEq, Repr

/-- The frost guard (sections 5.8 to 5.10). -/
structure Frost where
  water : Option Int
  source : WaterSource
  hold : Nat
  keep : Bool
  drainOpen : Bool
  reason : DrainReason
  deriving DecidableEq, Repr

/-- The activities of a motion record (section 6.1), in its image's order. -/
inductive Activity where
  | idle | waitDriver | waitGrant | moving | paused | reversing | fault
  deriving DecidableEq, Repr

/-- The requester of a motion (section 6.1). -/
inductive Requester where
  | panel | remote | routine | auto
  deriving DecidableEq, Repr

/-- A motion record's fault kind (section 6.1). -/
inductive FaultKind where
  | none | travelTime | stall | switchConflict
  deriving DecidableEq, Repr

/-- A motion's last result (section 6.1), in its image's order. -/
inductive MotionResult where
  | none | done | stopped | noBudget | shed | lvd | interlock | travelTime | stall | switchConflict
  deriving DecidableEq, Repr

/-- The drive-away mark (section 6.1). -/
inductive AwayMark where
  | none | stowing | inFault
  deriving DecidableEq, Repr

/-- A MOTION record less its settings, its position (read from activity and switches, R111) and its driver field
(read from the arbiter); `limit` is the travel limit the motion began with, in tenths of a second (R121), and `surge`
says that the first sample since MOVING began has not yet come (R120). -/
structure MotionRec where
  activity : Activity
  direction : Option Direction
  requester : Option Requester
  stowedSw : Bool
  deployedSw : Bool
  travel : Nat
  limit : Nat
  stallTimer : Nat
  surge : Bool
  grantWait : Nat
  reversal : Nat
  fault : FaultKind
  result : MotionResult
  mark : AwayMark
  deriving DecidableEq, Repr

/-- The motion sequencer: two records, the driver's holder and waiter (R112), the drive-away reference (R127). -/
structure Motion where
  recs : PerActuator MotionRec
  holder : Option Actuator
  waiter : Option Actuator
  awayRef : DriveState
  deriving DecidableEq, Repr

/-- A channel's zone as in force (R132). -/
inductive Zone where
  | a | b | none
  deriving DecidableEq, Repr

/-- A CHANNEL record less its setting (section 7.1). -/
structure Channel where
  present : Nat
  target : Nat
  step : Nat
  duty : Nat
  zone : Zone
  deriving DecidableEq, Repr

/-- A port's window (section 7.5): its channels, its mode, its write pointer and its staging row, which holds levels for
the window's first channels. -/
structure Window where
  first : Nat
  last : Nat
  staged : Bool
  pointer : Nat
  row : List Nat
  deriving DecidableEq, Repr

/-- A port's lighting fields (section 7.5), less its pending commit. -/
structure LightPort where
  window : Option Window
  discarded : Nat
  deriving DecidableEq, Repr

/-- A port's pending commit (R140, R141): the levels of the row for its window's channels from `first` on. -/
structure Commit where
  port : PortId
  first : Nat
  levels : List Nat
  deriving DecidableEq, Repr

/-- The lighting engine (chapter 7): the channels, the rated currents and the night level in force, the values last
asked for, the grant handed and in force, the ports' fields, the pending commits in the order their rows became
complete, whether the latest boundary found disconnect, and the time since the latest boundary. -/
structure Light where
  channels : Vector Channel 12
  rated : Vector Nat 12
  night : Nat
  askedFloor : Nat
  askedElastic : Nat
  handedFloor : Nat
  handedElastic : Nat
  forceFloor : Nat
  forceElastic : Nat
  ports : PerPort LightPort
  commits : List Commit
  dark : Bool
  frameTimer : Nat
  deriving DecidableEq, Repr

/-- The statuses of an answer (R169). -/
inductive Status where
  | done | accepted | notAttached | role | unknown | length | range | busy | interlock | locked | readOnly | frost
  deriving DecidableEq, Repr

/-- How a routine ended (R157). -/
inductive EndKind where
  | none | done | aborted | cancelled
  deriving DecidableEq, Repr

/-- Why a routine ended (R157): a refusal's status, a motion's result, a cancel or a restart. -/
inductive EndReason where
  | none
  | refusal (st : Status)
  | motion (r : MotionResult)
  | request
  | restart
  deriving DecidableEq, Repr

/-- The last end fields of a ROUTINE record (R157, R160). -/
structure LastEnd where
  kind : EndKind
  step : Nat
  reason : EndReason
  caller : Option PortId
  deriving DecidableEq, Repr

/-- Where the step in flight stands: to be presented, waiting on the motion of an actuator, or waiting on the step
timer (section 8.2). -/
inductive RunPhase where
  | presenting
  | onMotion (a : Actuator)
  | onTimer
  deriving DecidableEq, Repr

/-- A routine and the port that called it (R152). -/
structure Call where
  routine : Fin 8
  caller : PortId
  deriving DecidableEq, Repr

/-- The running routine (section 8.2). -/
structure Run where
  call : Call
  step : Nat
  phase : RunPhase
  timer : Nat
  deriving DecidableEq, Repr

/-- The routine runner (section 8.2), with the end of a motion handed to it and not yet taken (R130) and whether its step
is to be presented in this event (R154), both the model's own and empty between commands. -/
structure Runner where
  run : Option Run
  pendingCall : Option Call
  lastEnds : Vector LastEnd 8
  handed : Option MotionResult
  due : Bool
  deriving DecidableEq, Repr

/-- The fourteen notice kinds (R185), in code order from 1. -/
inductive NoticeKind where
  | budgetBand | shed | lvd | accountSync | chargeInhibit | tankLevel | tankFull | tankFault | pumpLock | drain
  | heater | motion | driveAway | routineEnd
  deriving DecidableEq, Repr

/-- The fourteen record classes (section 10.1), in code order from 1. -/
inductive RecClass where
  | port | account | source | drive | load | budget | tank | water | heater | motion | channel | scene | routine | battery
  deriving DecidableEq, Repr

/-- A notice in a port's queue: its kind and its record reference (R172). -/
structure Notice where
  kind : NoticeKind
  cls : RecClass
  index : Nat
  deriving DecidableEq, Repr

/-- The frame assembler (R164): inside a frame it keeps the bytes from KIND on and the zero run (R165). -/
inductive Assembler where
  | hunting
  | sync1
  | inFrame (bytes : List Byte) (zeros : Nat)
  deriving DecidableEq, Repr

/-- The receive line as the receiver takes it (R162, R163): looking for a start bit, waiting for the line to stand high,
or the same with this low period's break already taken. -/
inductive RxLine where
  | looking | waitHigh | broken
  deriving DecidableEq, Repr

/-- The request in mailbox slot A, and whether it has been delivered to its owner and is not yet answered (R168). -/
structure Slot where
  frame : Frame
  delivered : Bool
  deriving DecidableEq, Repr

/-- A frame of the transmitter: an answer or a notice; `restart` marks the DONE of a RESTART (R174). -/
structure TxFrame where
  kind : Byte
  tag : Byte
  body : List Byte
  restart : Bool
  deriving DecidableEq, Repr

/-- A port (chapter 9): attach state, receiver, mailbox, answer place, transmitter, notice queue and counters. -/
structure Port where
  attached : Bool
  level : Option Nat
  subscription : Half
  line : RxLine
  asm : Assembler
  slotA : Option Slot
  slotB : Option Frame
  answer : Option TxFrame
  sending : Option TxFrame
  queue : List Notice
  mark : Bool
  badFrames : Nat
  resyncs : Nat
  overruns : Nat
  breaks : Nat
  deriving DecidableEq, Repr

/-- The sleep state (section 11). -/
inductive SleepState where
  | awake | sleepPending | parkedSleep
  deriving DecidableEq, Repr

/-- The parked sleep block (section 11). -/
structure Sleep where
  state : SleepState
  idle : Nat
  quietMark : Bool
  deriving DecidableEq, Repr

/-- The settings store (R181): an image of the working settings and its stored check. -/
structure Store where
  image : Settings
  check : Half
  deriving DecidableEq, Repr

/-- A save in flight (R184): its snapshot and the time since it was taken. -/
structure SaveJob where
  snapshot : Settings
  elapsed : Nat
  deriving DecidableEq, Repr

/-- The W612. `powered` is whether supply is there (R182); `slowPeriod` is whether the sample period in progress is the
2000 ms one (R1, R3); `restarting` is whether a RESTART is in flight (R174); `pending` is the queue of commands that
wait, first in first out (the model's own). -/
structure State where
  powered : Bool
  settings : Settings
  store : Store
  defaulted : Bool
  saving : Option SaveJob
  slowPeriod : Bool
  account : Account
  drive : DriveSide
  adm : Adm
  tanks : PerTank TankRec
  water : Water
  heater : Heater
  frost : Frost
  motion : Motion
  light : Light
  runner : Runner
  ports : PerPort Port
  restarting : Bool
  sleep : Sleep
  pending : List Instr
  deriving DecidableEq, Repr

/-- Why the machine could stop with a fault. No command of the W612 stops the part: its manual names an answer, an effect
or no effect for every one, so that no meaning raises a fault. The one constructor keeps the type closed and inhabited;
it is raised by nothing (safe). -/
inductive Fault where
  /-- Raised by no meaning (safe). -/
  | unraised
  deriving DecidableEq, Repr

/-- Why the model could refuse a command. -/
inductive Refusal where
  /-- Raised by an arm of `exec` whose command has no meaning yet (safe); no arm raises it. -/
  | notModelled (mnemonic : String)
  deriving DecidableEq, Repr

/-- The account after power-on with the given settings (R4). -/
def Account.reset (b : BatterySettings) : Account :=
  let band := bandContaining b.chem 0
  { q := 0, ct := capacity b.cnom (bandFactor b.chem band), band := band, k := bandFactor b.chem band
    soc := 0, socEff := 0, calibrated := false, estimated := false
    restTimer := 0, syncTimer := 0, syncLatched := false, tempAbsence := 0
    lastI := 0, lastV := 0, lastT := 0, validI := .absent, validV := .absent, validT := .absent
    chem := b.chem, cnom := b.cnom, tempSeen := false }

/-- A load entry that is OFF (R41). -/
def Entry.reset (t : Settings) (i : Fin 20) : Entry :=
  { cls := t.restClass i, rating := t.restRating i, state := .off, grant := 0, pass := 0 }

/-- The admission controller after power-on and RESTART (R41, R51, R52, R63). DESIGN CHOICE (log entry 41): SoC_eff used and F used
stand at 0 until the first budget event (R67). -/
def Adm.reset (t : Settings) : Adm :=
  { entries := vtab (Entry.reset t)
    queue := [], granted := [], resume := []
    floorGrant := 0, floorWanted := 0, elasticWanted := 0
    lvd := false, entryTimer := 0, exitTimer := 0
    budget := 0, band := .closed, factor := 0, socUsed := 0, fUsed := 0
    changes := [] }

/-- A tank after power-on: UNKNOWN, its first scan in its settle (R69, R72). -/
def TankRec.reset : TankRec :=
  { step := none, last := none, readings := [], gap := false, full := false
    settle := .settling, settleTime := 0, scanTimer := 0, scanPeriod := 10000 }

/-- A motion record at rest whose end switches stand inactive, after power-on (R113). -/
def MotionRec.reset : MotionRec :=
  { activity := .idle, direction := none, requester := none, stowedSw := false, deployedSw := false
    travel := 0, limit := 0, stallTimer := 0, surge := false, grantWait := 0, reversal := 0
    fault := .none, result := .none, mark := .none }

/-- A port after power-on and RESTART (R161). DESIGN CHOICE (log entry 38): it holds no break of the low period it stands in as
taken (R163). -/
def Port.reset : Port :=
  { attached := false, level := none, subscription := 0, line := .waitHigh, asm := .hunting
    slotA := none, slotB := none, answer := none, sending := none, queue := [], mark := false
    badFrames := 0, resyncs := 0, overruns := 0, breaks := 0 }

/-- The lighting fields of a port after power-on and RESTART (R142). -/
def LightPort.reset : LightPort := { window := none, discarded := 0 }

/-- The zone of a channel under the given bounds (R132). -/
def ZoneBounds.zoneOf (z : ZoneBounds) (i : Nat) : Zone :=
  if z.aFirst ≤ i ∧ i ≤ z.aLast then .a else if z.bFirst ≤ i ∧ i ≤ z.bLast then .b else .none

/-- The lighting engine after power-on with the given settings (R147). DESIGN CHOICE (log entry 36): the first frame boundary
falls a full 10 ms after power-on (R136). -/
def Light.reset (l : LightSettings) : Light :=
  { channels := vtab fun i => { present := 0, target := 0, step := 255, duty := 0, zone := l.bounds.zoneOf i.val }
    rated := l.rated, night := l.night
    askedFloor := 0, askedElastic := 0, handedFloor := 0, handedElastic := 0, forceFloor := 0, forceElastic := 0
    ports := { panel := .reset, remote := .reset, vehicle := .reset }
    commits := [], dark := false, frameTimer := 0 }

/-- The runner after power-on (R151). -/
def Runner.reset : Runner :=
  { run := none, pendingCall := none
    lastEnds := vtab fun _ => { kind := .none, step := 0, reason := .none, caller := none }
    handed := none, due := false }

/-- A store never written: DESIGN CHOICE (log entry 3), its check is not the sum of its image. -/
def Store.blank : Store := { image := .defaults, check := 0 }

/-- The machine right after power-on with a store that fails its check and every line INACTIVE (log entries 3 and 4):
the store defaults (R181), every block's power-on values, and the drain's opening already handed to the pump (R77,
R105). -/
def State.reset : State :=
  { powered := true
    settings := .defaults
    store := .blank
    defaulted := true
    saving := none
    slowPeriod := false
    account := .reset Settings.defaults.battery
    drive :=
      { state := .unknown, ignition := false, engine := false, cranking := false, handbrake := false, speed := 0
        reported := false, age := 0, crankTimer := 0, crankLong := false, crankLatch := false, shore := false
        inhibit := false, inhibitCause := .none, inhibitAbsence := 0, chem := .lead, isrc := 0, f := 0, outside := none
        shoreSource := { enabled := false, cause := .noShore, current := 0, validity := .absent }
        altSource := { enabled := false, cause := .engineOff, current := 0, validity := .absent }
        solarSource := { enabled := true, cause := .none, current := 0, validity := .absent } }
    adm := .reset .defaults
    tanks := { fresh := .reset, grey := .reset, black := .reset }
    water :=
      { pump := .frostLock, lock := .frost, demand := false, requested := false, dryTimer := 0
        pulses := 0, drawn := 0, vEst := none, asking := false }
    heater :=
      { mode := .off, state := .off, phase := 0, reason := .none, attempts := 0, demand := none
        flameRunning := false, flameTimer := 0, lockout := .none, cabin := none, cabinAbsence := 0 }
    frost := { water := none, source := .none, hold := 0, keep := false, drainOpen := true, reason := .power }
    motion :=
      { recs := { awning := .reset, step := .reset }, holder := none, waiter := none, awayRef := .parked }
    light := .reset Settings.defaults.light
    runner := .reset
    ports := { panel := .reset, remote := .reset, vehicle := .reset }
    restarting := false
    sleep := { state := .awake, idle := 0, quietMark := false }
    pending := [] }

end Sys2Proof.Machine
end

