-- ==== Sys2Proof/Machine/Ops.lean ====
section
/-! DEFINITION. The operations every block shares: the update of one block of the state, the rows of the ports, the
actuators and the tanks, the table of entries, and the raising of a notice (R172). -/

namespace Sys2Proof.Machine

/-! ### One block of the state -/

def State.withSettings (s : State) (x : Settings) : State := { s with settings := x }
def State.withAccount (s : State) (x : Account) : State := { s with account := x }
def State.withDrive (s : State) (x : DriveSide) : State := { s with drive := x }
def State.withAdm (s : State) (x : Adm) : State := { s with adm := x }
def State.withTanks (s : State) (x : PerTank TankRec) : State := { s with tanks := x }
def State.withWater (s : State) (x : Water) : State := { s with water := x }
def State.withHeater (s : State) (x : Heater) : State := { s with heater := x }
def State.withFrost (s : State) (x : Frost) : State := { s with frost := x }
def State.withMotion (s : State) (x : Motion) : State := { s with motion := x }
def State.withLight (s : State) (x : Light) : State := { s with light := x }
def State.withRunner (s : State) (x : Runner) : State := { s with runner := x }
def State.withPorts (s : State) (x : PerPort Port) : State := { s with ports := x }
def State.withSleep (s : State) (x : Sleep) : State := { s with sleep := x }
def State.withPending (s : State) (x : List Instr) : State := { s with pending := x }

/-! ### Rows -/

/-- The port's own value. -/
def PerPort.get {α : Type} (x : PerPort α) : PortId → α
  | .panel => x.panel
  | .remote => x.remote
  | .vehicle => x.vehicle

/-- The same values with the port's replaced. -/
def PerPort.set {α : Type} (x : PerPort α) (p : PortId) (v : α) : PerPort α :=
  match p with
  | .panel => { x with panel := v }
  | .remote => { x with remote := v }
  | .vehicle => { x with vehicle := v }

/-- The actuator's own value. -/
def PerActuator.get {α : Type} (x : PerActuator α) : Actuator → α
  | .awning => x.awning
  | .step => x.step

/-- The same values with the actuator's replaced. -/
def PerActuator.set {α : Type} (x : PerActuator α) (a : Actuator) (v : α) : PerActuator α :=
  match a with
  | .awning => { x with awning := v }
  | .step => { x with step := v }

/-- The tank's own value. -/
def PerTank.get {α : Type} (x : PerTank α) : TankId → α
  | .fresh => x.fresh
  | .grey => x.grey
  | .black => x.black

/-- The same values with the tank's replaced. -/
def PerTank.set {α : Type} (x : PerTank α) (t : TankId) (v : α) : PerTank α :=
  match t with
  | .fresh => { x with fresh := v }
  | .grey => { x with grey := v }
  | .black => { x with black := v }

/-- The state with one port replaced. -/
def State.setPort (s : State) (p : PortId) (x : Port) : State := s.withPorts (s.ports.set p x)

/-- The state with one motion record replaced. -/
def State.setRec (s : State) (a : Actuator) (r : MotionRec) : State :=
  s.withMotion { s.motion with recs := s.motion.recs.set a r }

/-- The state with one tank record replaced. -/
def State.setTank (s : State) (t : TankId) (r : TankRec) : State := s.withTanks (s.tanks.set t r)

/-- The motion record of an actuator. -/
def State.motionRec (s : State) (a : Actuator) : MotionRec := s.motion.recs.get a

/-- A tank's settings (section 4.1). -/
def Settings.tank (x : Settings) : TankId → TankSettings
  | .fresh => x.fresh
  | .grey => x.grey
  | .black => x.black

/-- A motion record's settings (section 6.1). -/
def Settings.motion (x : Settings) : Actuator → MotionSettings
  | .awning => x.awning
  | .step => x.step

/-- The index of an actuator's MOTION record. -/
def actuatorIndex : Actuator → Nat
  | .awning => 0
  | .step => 1

/-- The index of a TANK record. -/
def tankIndex : TankId → Nat
  | .fresh => 0
  | .grey => 1
  | .black => 2

/-- The other actuator. -/
def otherActuator : Actuator → Actuator
  | .awning => .step
  | .step => .awning

/-! ### Notices -/

/-- The code of a notice kind (R185). -/
def NoticeKind.code : NoticeKind → Nat
  | .budgetBand => 1
  | .shed => 2
  | .lvd => 3
  | .accountSync => 4
  | .chargeInhibit => 5
  | .tankLevel => 6
  | .tankFull => 7
  | .tankFault => 8
  | .pumpLock => 9
  | .drain => 10
  | .heater => 11
  | .motion => 12
  | .driveAway => 13
  | .routineEnd => 14

/-- The code of a record class (section 10.1). -/
def RecClass.code : RecClass → Nat
  | .port => 1
  | .account => 2
  | .source => 3
  | .drive => 4
  | .load => 5
  | .budget => 6
  | .tank => 7
  | .water => 8
  | .heater => 9
  | .motion => 10
  | .channel => 11
  | .scene => 12
  | .routine => 13
  | .battery => 14

/-- The subscription set names the kind: bit `code - 1` of the mask (R185). -/
def subscribed (mask : Half) (k : NoticeKind) : Bool := mask.getLsbD (k.code - 1)

/-- A notice queue takes a notice: one of its kind keeps its place and takes the new reference, else the notice joins the
tail (R172). -/
def queueNotice (n : Notice) : List Notice → List Notice
  | [] => [n]
  | m :: rest => if m.kind = n.kind then n :: rest else m :: queueNotice n rest

/-- A port is offered a notice: attached and subscribed it takes it, else nothing (R172). -/
def Port.offer (x : Port) (n : Notice) : Port :=
  if x.attached && subscribed x.subscription n.kind then { x with queue := queueNotice n x.queue } else x

/-- A block raises a notice: it is offered to each of the three ports (R172). -/
def raise (k : NoticeKind) (c : RecClass) (index : Nat) (s : State) : State :=
  let n : Notice := { kind := k, cls := c, index := index }
  s.withPorts { panel := s.ports.panel.offer n, remote := s.ports.remote.offer n, vehicle := s.ports.vehicle.offer n }

/-! ### The load table -/

/-- The table with one entry replaced. -/
def Adm.setEntry (a : Adm) (e : Fin 20) (x : Entry) : Adm := { a with entries := a.entries.set e x }

/-- The twenty entry numbers in order. -/
def allEntries : List (Fin 20) := List.finRange 20

/-- The entry is GRANTED. -/
def Adm.isGranted (a : Adm) (e : Fin 20) : Bool := a.entries[e].state == .granted

/-- An entry of a counted class (R54). -/
def Entry.counted (x : Entry) : Bool := x.cls == .comfort || x.cls == .deferrable

/-- S: the sum of the grants of all COMFORT and DEFERRABLE entries, entry 5 by its elastic grant (R54). -/
def Adm.sumS (a : Adm) : Nat := (a.entries.toList.map fun x => if x.counted then x.grant else 0).sum

/-- D: the sum of the grants of all DEFERRABLE entries (R54). -/
def Adm.sumD (a : Adm) : Nat := (a.entries.toList.map fun x => if x.cls == .deferrable then x.grant else 0).sum

/-- The length of the sample period in progress, in ms (R1). -/
def State.period (s : State) : Nat := if s.slowPeriod then Config.samplePeriodAsleep else Config.samplePeriodAwake

end Sys2Proof.Machine
end

