-- ==== Sys2Proof/Machine/Operands.lean ====
section
/-! DEFINITION. The operand forms: the front end's reading of a channel (R2), and the bytes of frames and records, high
byte first (R178). -/

namespace Sys2Proof.Machine

/-- A channel's value with its validity (R2). -/
inductive Reading where
  | valid (v : Int)
  | saturated (v : Int)
  | absent
  deriving DecidableEq, Repr

/-- The front end's judgement of a conversion against its channel's range (R2): within it VALID, beyond one end
SATURATED at that end, an open or shorted input ABSENT. -/
def readChannel (lo hi : Int) : Option Int → Reading
  | none => .absent
  | some v => if v < lo then .saturated lo else if hi < v then .saturated hi else .valid v

/-- The number a reading carries: none when ABSENT. -/
def Reading.value : Reading → Option Int
  | .valid v => some v
  | .saturated v => some v
  | .absent => none

/-- The validity a reading carries. -/
def Reading.validity : Reading → Validity
  | .valid _ => .valid
  | .saturated _ => .saturated
  | .absent => .absent

/-- The number of a VALID reading only. -/
def Reading.validValue : Reading → Option Int
  | .valid v => some v
  | .saturated _ => none
  | .absent => none

/-! The eleven channels with their ranges (section 1.1). -/

def readBattI (x : Sample) : Reading := readChannel (-30000) 30000 x.battI
def readBattV (x : Sample) : Reading := readChannel 8000 17000 x.battV
def readShore (x : Sample) : Reading := readChannel 0 6000 x.srcShore
def readAlt (x : Sample) : Reading := readChannel 0 6000 x.srcAlt
def readSolar (x : Sample) : Reading := readChannel 0 6000 x.srcSolar
def readTBattery (x : Sample) : Reading := readChannel (-400) 850 x.tBattery
def readTCabin (x : Sample) : Reading := readChannel (-400) 850 x.tCabin
def readTWaterBay (x : Sample) : Reading := readChannel (-400) 850 x.tWaterBay
def readTOutside (x : Sample) : Reading := readChannel (-400) 850 x.tOutside
def readTExhaust (x : Sample) : Reading := readChannel 0 4000 x.tExhaust
def readMotorI (x : Sample) : Reading := readChannel 0 5000 x.motorI

/-! Bytes, high byte first (R178). -/

/-- A two-byte unsigned number. -/
def be16 (n : Nat) : List Byte := [byte (n / 256), byte n]

/-- A three-byte unsigned number. -/
def be24 (n : Nat) : List Byte := [byte (n / 65536), byte (n / 256), byte n]

/-- A four-byte unsigned number. -/
def be32 (n : Nat) : List Byte := [byte (n / 16777216), byte (n / 65536), byte (n / 256), byte n]

/-- A two-byte signed number in two's complement. -/
def beInt (i : Int) : List Byte := be16 (i % 65536).toNat

/-- The unsigned number a run of bytes stands for. -/
def numOf (bs : List Byte) : Nat := bs.foldl (fun n b => n * 256 + b.toNat) 0

/-- The signed number that two bytes stand for. -/
def intOf (bs : List Byte) : Int :=
  let n := numOf bs
  if n < 32768 then (n : Int) else (n : Int) - 65536

/-- The signed number of a sixteen-bit field. -/
def halfInt (h : Half) : Int := h.toInt

/-- The two bytes of a sixteen-bit field. -/
def halfBytes (h : Half) : List Byte := be16 h.toNat

/-- A clamp to a range (section "Arithmetic" of the conventions). -/
def clampNat (lo hi x : Nat) : Nat := min hi (max lo x)

/-- A clamp of a signed number to a range. -/
def clampInt (lo hi x : Int) : Int := min hi (max lo x)

/-- The least whole number not below `a / b`. -/
def ceilDiv (a b : Nat) : Nat := (a + (b - 1)) / b

/-- A count that stops at `stop`. -/
def countTo (stop n : Nat) : Nat := min stop (n + 1)

end Sys2Proof.Machine
end

