-- ==== Sys2Proof/Machine/Account.lean ====
section
/-! DEFINITION. The battery account (chapter 1): its stages at a sample event and the two corrections that end a rest
and a full charge. -/

namespace Sys2Proof.Machine

/-- The SoC, in per mille, of a charge against a capacity (R16). -/
def socOf (q ct : Nat) : Nat := q * 1000 / ct

/-- The charge that stands for a SoC (R19, R22). -/
def chargeOf (soc ct : Nat) : Nat := soc * ct / 1000

/-- The account with its SoC formed anew from Q (R16). -/
def Account.withSoc (a : Account) : Account := { a with soc := socOf a.q a.ct }

/-- R23: the effective state of charge. -/
def Account.effective (a : Account) : Nat :=
  if a.estimated then (if a.calibrated then a.soc else a.soc - 100) else 0

/-- Stage 8's SoC_eff (R23). -/
def Account.withEff (a : Account) : Account := { a with socEff := a.effective }

/-- The account rescaled to a capacity (R15): Q_new = floor(Q_old x C_new / C_old). -/
def Account.rescale (a : Account) (ct : Nat) : Account := { a with q := a.q * ct / a.ct, ct := ct }

/-- The account moved to a band, rescaled where it is another one (R13 to R15). -/
def Account.toBand (a : Account) (band : Nat) : Account :=
  if band = a.band then a
  else
    let k := bandFactor a.chem band
    { a.rescale (capacity a.cnom k) with band := band, k := k }

/-- R13: the band that a temperature moves the band in force to, with hysteresis toward the warm side only. -/
def movedBand (c : Chemistry) (band : Nat) (temp : Int) : Nat :=
  let colder := match (bandLowers c)[band]? with
    | some lower => decide (temp < lower)
    | none => false
  if colder then bandContaining c temp
  else
    let warmer := match band with
      | 0 => false
      | b + 1 => match (bandLowers c)[b]? with
        | some lower => decide (lower + 10 ≤ temp)
        | none => false
    if warmer then ((bandLowers c).filter (fun lower => decide (temp < lower + 10))).length else band

/-- R7, R8 stage 1: a change of chemistry or of C_nom is taken. -/
def Account.takeSettings (a : Account) (b : BatterySettings) : Account :=
  if b.chem = a.chem ∧ b.cnom = a.cnom then a
  else
    let band :=
      if b.chem = a.chem then a.band
      else bandContaining b.chem (if a.tempAbsence ≥ Config.minute ∨ !a.tempSeen then 0 else a.lastT)
    let k := bandFactor b.chem band
    let a1 := { a.rescale (capacity b.cnom k) with chem := b.chem, cnom := b.cnom, band := band, k := k }
    { a1.withSoc with calibrated := false, restTimer := 0, syncTimer := 0, syncLatched := false }

/-- R14's forced band: the band that contains 0.0 degrees. -/
def Account.forceBand (a : Account) : Account := a.toBand (bandContaining a.chem 0)

/-- R8 stage 2: the band is brought up to date from T_BATTERY (R13, R14). -/
def Account.takeTemperature (a : Account) (p : Nat) (r : Reading) : Account :=
  match r.value with
  | some temp => { a.toBand (movedBand a.chem a.band temp) with tempAbsence := 0, tempSeen := true }
  | none =>
    let a1 := { a with tempAbsence := min Config.minute (a.tempAbsence + p) }
    if a1.tempAbsence ≥ Config.minute then a1.forceBand else a1

/-- The OCV table's index of the step that holds a voltage, with the two voltages of the step (R18). -/
def ocvStep (v : Int) : Nat → List Nat → Option (Nat × Nat × Nat)
  | j, a :: b :: rest => if v < (b : Int) then some (j, a, b) else ocvStep v (j + 1) (b :: rest)
  | _, _ => none

/-- R18: the open-circuit estimate of a voltage against the OCV table in force. -/
def socOcv (table : List Nat) (v : Int) : Nat :=
  match table with
  | [] => 0
  | v0 :: _ =>
    if v ≤ (v0 : Int) then 0
    else match ocvStep v 0 table with
      | some (j, a, b) => 100 * j + 100 * (v.toNat - a) / (b - a)
      | none => 1000

/-- R22, R8 stage 3: the power-on estimate from a VALID voltage. -/
def Account.estimate (a : Account) (b : BatterySettings) (v : Int) : Account :=
  let soc := socOcv b.ocv v
  { a with soc := soc, q := chargeOf soc a.ct, calibrated := false, estimated := true }

/-- R9, R10: the charge step of a current over a period, integrated and clamped. -/
def integrate (q ct eta p : Nat) (i : Int) : Nat :=
  let r := i.natAbs * p / 100
  if i < 0 then min ct (q - r) else min ct (q + r * eta / 1000)

/-- R8 stage 4 (R9 to R11). -/
def Account.takeCurrent (a : Account) (b : BatterySettings) (p : Nat) (r : Reading) : Account :=
  match r.value with
  | some i => { a with q := integrate a.q a.ct b.eta p i }
  | none => { a with calibrated := false }

/-- R19: the weighted mean of count and estimate, rounded half up. -/
def blend (soc ocv w : Nat) : Nat := (soc * (1000 - w) + ocv * w + 500) / 1000

/-- R19: whether an estimate may correct an account of the chemistry. -/
def mayCorrect (c : Chemistry) (ocv : Nat) : Bool :=
  match c with
  | .lead => true
  | .lfp => decide (ocv ≤ 150) || decide (950 ≤ ocv)

/-- The attempt at a rest correction (R17 to R19): the timer clears whether or not it is applied. -/
def Account.restCorrect (a : Account) (b : BatterySettings) (v : Int) : Account :=
  let ocv := socOcv b.ocv v
  if mayCorrect a.chem ocv then
    let soc := blend a.soc ocv b.weight
    { ({ a with q := chargeOf soc a.ct } : Account).withSoc with calibrated := true, restTimer := 0 }
  else { a with restTimer := 0 }

/-- R8 stage 6 (R17): the rest timer, and the attempt when the advanced timer has reached the rest time. -/
def Account.takeRest (a : Account) (b : BatterySettings) (p : Nat) (ds : DriveState) (i v : Reading) : Account :=
  match i.value with
  | none => { a with restTimer := 0 }
  | some cur =>
    if ds = .cranking then a
    else if cur.natAbs > Config.restCurrent then { a with restTimer := 0 }
    else match v.validValue with
      | none => a
      | some volt =>
        let a1 := { a with restTimer := a.restTimer + p }
        if a1.restTimer ≥ b.restTime * 1000 then a1.restCorrect b volt else a1

/-- R20's three conditions. -/
def syncHolds (b : BatterySettings) (cnom : Nat) (i v : Reading) : Bool :=
  match v.validValue, i.value with
  | some volt, some cur => decide ((b.fullV : Int) ≤ volt) && decide (0 < cur) && decide (cur ≤ (cnom * 2 : Nat))
  | _, _ => false

/-- The full-charge sync itself (R20). -/
def Account.sync (a : Account) : Account :=
  { ({ a with q := a.ct } : Account).withSoc with calibrated := true, syncTimer := 0, syncLatched := true }

/-- R8 stage 7 (R20), with whether the sync took place. -/
def Account.takeSync (a : Account) (b : BatterySettings) (p : Nat) (i v : Reading) : Account × Bool :=
  if syncHolds b a.cnom i v then
    if a.syncLatched then ({ a with syncTimer := 0 }, false)
    else
      let a1 := { a with syncTimer := a.syncTimer + p }
      if a1.syncTimer ≥ Config.minute then (a1.sync, true) else (a1, false)
  else ({ a with syncTimer := 0, syncLatched := false }, false)

/-- R8 stage 8: the last values and validities. -/
def Account.takeLast (a : Account) (i v t : Reading) : Account :=
  { a with
    lastI := i.value.getD a.lastI
    lastV := v.value.getD a.lastV
    lastT := t.value.getD a.lastT
    validI := i.validity
    validV := v.validity
    validT := t.validity }

/-- R8's stages 4 to 7, with whether a full-charge sync took place. -/
def Account.count (a : Account) (b : BatterySettings) (p : Nat) (ds : DriveState) (i v : Reading) : Account × Bool :=
  let a4 := a.takeCurrent b p i
  let a5 := a4.withSoc
  let a6 := a5.takeRest b p ds i v
  a6.takeSync b p i v

/-- R8: the account's work at a sample event over the period `p`, with whether a full-charge sync took place. -/
def Account.sample (a : Account) (b : BatterySettings) (p : Nat) (ds : DriveState) (x : Sample) : Account × Bool :=
  let i := readBattI x
  let v := readBattV x
  let t := readTBattery x
  let a2 := (a.takeSettings b).takeTemperature p t
  let (a7, synced) :=
    if a2.estimated then a2.count b p ds i v
    else match v.validValue with
      | some volt => (a2.estimate b volt, false)
      | none => (a2, false)
  ((a7.withEff).takeLast i v t, synced)

/-- The account takes a sample event; a full-charge sync raises ACCOUNT_SYNC (R20, R24). -/
def accountSample (x : Sample) (s : State) : State :=
  let (a, synced) := s.account.sample s.settings.battery s.period s.drive.state x
  let s1 := s.withAccount a
  if synced then raise .accountSync .account 0 s1 else s1

/-- The rest timer reaches the rest time (R17 to R19) on the account's latest sample. Where that sample could not have
advanced the timer (no estimate yet, no current or one above 20 cA, no VALID voltage, CRANKING) the expiry does not
arise (log entry 5). DESIGN CHOICE (log entry 32): as a command of its own it uses the settings as they stand, one written
since that sample included, under the chemistry the account has taken (R6, R7). -/
def restReached (s : State) : State :=
  let a := s.account
  if a.estimated && a.validI != .absent && s.drive.state != .cranking && decide (a.lastI.natAbs ≤ Config.restCurrent)
      && a.validV == .valid then
    s.withAccount (a.restCorrect s.settings.battery a.lastV).withEff
  else s

/-- The full-sync timer reaches 60 s (R20) on the account's latest sample, where that sample meets R20's conditions and
no sync is latched (log entry 5). DESIGN CHOICE (log entry 32): the full voltage is the one that stands, written since
that sample or not (R6). -/
def syncReached (s : State) : State :=
  let a := s.account
  if a.estimated && !a.syncLatched && a.validV == .valid && a.validI != .absent
      && decide ((s.settings.battery.fullV : Int) ≤ a.lastV) && decide (0 < a.lastI)
      && decide (a.lastI ≤ (a.cnom * 2 : Nat)) then
    raise .accountSync .account 0 (s.withAccount a.sync.withEff)
  else s

/-- The temperature absence time reaches 60 s (R14): the band is the 0.0 degree band, where T_BATTERY is ABSENT at the
latest sample (log entry 5). DESIGN CHOICE (log entry 32): outside a sample's stages SoC and SoC_eff are formed anew at
once (R16). -/
def tempAbsenceReached (s : State) : State :=
  let a := s.account
  if a.validT == .absent then
    s.withAccount (({ a with tempAbsence := Config.minute } : Account).forceBand.withSoc.withEff)
  else s

/-- R5: what a RESTART sets in the account; everything else is kept. -/
def Account.restart (a : Account) : Account :=
  { a with restTimer := 0, syncTimer := 0, tempAbsence := 0, syncLatched := false }

end Sys2Proof.Machine
end

