-- ==== Sys2Proof/Machine/Admission.lean ====
section
/-! DEFINITION. The admission controller (chapter 3): requests and releases, the admission pass, lighting's elastic part,
the budget, the shed pass and low-voltage disconnect. Every function of the load table works on `Adm` alone and appends the
changes of grant it makes, in order, for their owners (R47). -/

namespace Sys2Proof.Machine

/-- Entry 5, LIGHTING. -/
abbrev lightEntry : Fin 20 := 5

/-- A change of grant is noted for its owner with the amount now held (R47); entry 5's carries both its grants (R144). -/
def Adm.note (a : Adm) (e : Fin 20) (c : Cause) : Adm :=
  let change : GrantChange :=
    { entry := e, cause := c, floor := if e = lightEntry then a.floorGrant else 0, amount := a.entries[e].grant }
  { a with changes := a.changes ++ [change] }

/-- An entry leaves every list, the order of the rest kept (R45). -/
def Adm.unlist (a : Adm) (e : Fin 20) : Adm :=
  { a with queue := a.queue.erase e, granted := a.granted.erase e, resume := a.resume.erase e }

/-! ### The admission pass -/

/-- R56: the entry fits under the budget and the sums as they stand. -/
def Adm.fits (a : Adm) (e : Fin 20) : Bool :=
  let x := a.entries[e]
  decide (x.rating + Config.admissionMargin + a.sumS ≤ a.budget)
    && (x.cls != .deferrable || decide (x.rating + a.sumD ≤ a.fUsed))

/-- R56: an entry of the queue is granted at its rating. -/
def Adm.grantQueued (a : Adm) (e : Fin 20) : Adm :=
  let x := a.entries[e]
  let a1 := a.setEntry e { x with state := .granted, grant := x.rating, pass := 0 }
  ({ a1 with queue := a1.queue.erase e, granted := a1.granted ++ [e] }).note e .granted

/-- Entry 5 is GRANTED in full: it leaves the queue and stands in the granted list (R58, R59). Its owner is handed GRANTED, or
CUT where the elastic part is reduced (R47). -/
def Adm.grantLighting (a : Adm) (elastic : Nat) : Adm :=
  let x := a.entries[lightEntry]
  let a1 := a.setEntry lightEntry { x with state := .granted, grant := elastic, pass := 0 }
  ({ a1 with
      queue := a1.queue.erase lightEntry
      granted := if lightEntry ∈ a1.granted then a1.granted else a1.granted ++ [lightEntry] }).note lightEntry
        (if elastic < x.grant then .cut else .granted)

/-- R59: what a pass that reaches entry 5 grants it. -/
def Adm.passLighting (a : Adm) : Adm :=
  let x := a.entries[lightEntry]
  if x.grant = a.elasticWanted then a.grantLighting x.grant
  else
    let amount := min (a.elasticWanted - x.grant) (a.budget - a.sumS - Config.admissionMargin)
    if amount = 0 then a
    else if x.grant + amount = a.elasticWanted then a.grantLighting (x.grant + amount)
    else (a.setEntry lightEntry { x with grant := x.grant + amount }).note lightEntry .part

/-- R57's walk over the entries of the queue as they stood when the pass began. -/
def Adm.walk : List (Fin 20) → Adm → Adm
  | [], a => a
  | e :: rest, a =>
    if e = lightEntry then Adm.walk rest a.passLighting
    else if a.fits e then Adm.walk rest (a.grantQueued e)
    else
      let x := a.entries[e]
      let count := min Config.passLimit (x.pass + 1)
      let a1 := a.setEntry e { x with pass := count }
      if count = Config.passLimit then a1 else Adm.walk rest a1

/-- R57: an admission pass, in NORMAL only. -/
def Adm.pass (a : Adm) : Adm := if a.lvd then a else Adm.walk a.queue a

/-! ### Requests and releases -/

/-- The entry asks anew from OFF in a counted class (R44): it waits at the tail, of the queue with a pass in NORMAL, of the
resume list in LVD. -/
def Adm.join (a : Adm) (e : Fin 20) (c : LoadClass) (rating : Nat) : Adm :=
  let a1 := (a.unlist e).setEntry e { cls := c, rating := rating, state := .waiting, grant := 0, pass := 0 }
  if a1.lvd then { a1 with resume := a1.resume ++ [e] } else ({ a1 with queue := a1.queue ++ [e] }).pass

/-- An uncounted grant at the rating, out of every list (R42, R43). -/
def Adm.grantUncounted (a : Adm) (e : Fin 20) (c : LoadClass) (rating : Nat) : Adm :=
  ((a.unlist e).setEntry e { cls := c, rating := rating, state := .granted, grant := rating, pass := 0 }).note e .granted

/-- An owner's request for an entry other than lighting (R42 to R44, R46). -/
def Adm.request (a : Adm) (e : Fin 20) (c : LoadClass) (rating : Nat) : Adm :=
  let x := a.entries[e]
  let same := x.state != .off && x.cls == c && x.rating == rating
  let countedGrant := x.counted && decide (0 < x.grant)
  match c with
  | .prot =>
    if same then a
    else
      let a1 := a.grantUncounted e .prot rating
      if countedGrant then a1.pass else a1
  | .essential =>
    if same then a
    else if a.lvd then
      (a.unlist e).setEntry e { cls := .essential, rating := rating, state := .waiting, grant := 0, pass := 0 }
    else
      let a1 := a.grantUncounted e .essential rating
      if countedGrant then a1.pass else a1
  | _ =>
    if same then a
    else if (x.state == .waiting || x.state == .shed) && x.counted then
      a.setEntry e { x with cls := c, rating := rating }
    else a.join e c rating

/-- An owner's release of an entry (R45): OFF, out of every list, and a pass in NORMAL. -/
def Adm.release (a : Adm) (e : Fin 20) : Adm :=
  let x := a.entries[e]
  if x.state = .off then a
  else
    let rating := if e = lightEntry then 0 else x.rating
    let a1 := (a.unlist e).setEntry e { x with rating := rating, state := .off, grant := 0, pass := 0 }
    let a2 := if e = lightEntry then { a1 with floorGrant := 0, floorWanted := 0, elasticWanted := 0 } else a1
    a2.pass

/-- The lighting engine's request carrying F_L and E (R58). -/
def Adm.requestLighting (a : Adm) (floor elastic : Nat) : Adm :=
  if floor = 0 ∧ elastic = 0 then a.release lightEntry
  else
    let x := a.entries[lightEntry]
    let a1 := { a with floorWanted := floor, elasticWanted := elastic }
    let a2 := a1.setEntry lightEntry { x with rating := floor + elastic }
    if a.lvd then
      let a3 := a2.setEntry lightEntry { x with rating := floor + elastic, state := .waiting, pass := 0 }
      { a3 with
        floorGrant := 0
        resume := if lightEntry ∈ a3.resume then a3.resume else a3.resume ++ [lightEntry] }
    else
      let a3 := { a2 with floorGrant := floor }
      if elastic ≤ x.grant then (a3.grantLighting elastic).pass
      else
        let a4 := a3.setEntry lightEntry { x with rating := floor + elastic, state := .waiting, pass := 0 }
        let a5 := { a4 with
          granted := a4.granted.erase lightEntry
          queue := if lightEntry ∈ a4.queue then a4.queue else a4.queue ++ [lightEntry] }
        (if a.floorGrant = floor then a5 else a5.note lightEntry .part).pass

/-! ### The shed pass -/

/-- A counted entry is shed to the head of the queue (R62). -/
def Adm.shedEntry (a : Adm) (e : Fin 20) : Adm :=
  let x := a.entries[e]
  let a1 := (a.unlist e).setEntry e { x with state := .shed, grant := 0, pass := 0 }
  ({ a1 with queue := e :: a1.queue }).note e (if e = lightEntry then .cut else .shed)

/-- R60's first step over the granted list taken latest first: the DEFERRABLE entries shed, and the rest. -/
def Adm.shedDeferrable : List (Fin 20) → Adm → Adm × List (Fin 20)
  | [], a => (a, [])
  | e :: rest, a =>
    if a.entries[e].cls = .deferrable ∧ ¬ (a.sumD ≤ a.fUsed ∧ a.sumS ≤ a.budget) then
      let r := Adm.shedDeferrable rest (a.shedEntry e)
      (r.1, e :: r.2)
    else Adm.shedDeferrable rest a

/-- A COMFORT entry that holds a counted grant: GRANTED, or entry 5 whenever its elastic grant is above 0 (R61). -/
def Adm.takesComfort (a : Adm) (e : Fin 20) : Bool :=
  let x := a.entries[e]
  x.cls == .comfort && (if e = lightEntry then decide (0 < x.grant) else x.state == .granted)

/-- R61's order: highest rank number first. -/
def Adm.comfortOrder (a : Adm) (t : Settings) : List (Fin 20) :=
  (List.range 20).flatMap fun k =>
    allEntries.filter fun e => a.takesComfort e && t.rank e == some (20 - k)

/-- R61: the COMFORT step over its order, until S lies within B. -/
def Adm.shedComfort : List (Fin 20) → Adm → Adm × List (Fin 20)
  | [], a => (a, [])
  | e :: rest, a =>
    if a.sumS ≤ a.budget then (a, [])
    else
      let r := Adm.shedComfort rest (a.shedEntry e)
      (r.1, e :: r.2)

/-- The shed pass (R60, R61), with the entries shed or cut in their order. -/
def Adm.shedPass (a : Adm) (t : Settings) : Adm × List (Fin 20) :=
  if a.sumS ≤ a.budget ∧ a.sumD ≤ a.fUsed then (a, [])
  else
    let r := Adm.shedDeferrable a.granted.reverse a
    let r2 := Adm.shedComfort (r.1.comfortOrder t) r.1
    (r2.1, r.2 ++ r2.2)

/-! ### Disconnect -/

/-- An entry placed in the resume list: WAITING with no grant and no pass count, its change noted where a grant was
removed (R64). -/
def Adm.toResume (a : Adm) (e : Fin 20) : Adm :=
  let x := a.entries[e]
  let a1 := a.setEntry e { x with state := .waiting, grant := 0, pass := 0 }
  if decide (0 < x.grant) || x.state == .granted then a1.note e .lvd else a1

/-- A GRANTED ESSENTIAL entry loses its grant and is held for the exit (R64). -/
def Adm.hold (a : Adm) (e : Fin 20) : Adm :=
  let x := a.entries[e]
  if x.state = .granted ∧ x.cls = .essential then
    (a.setEntry e { x with state := .waiting, grant := 0, pass := 0 }).note e .lvd
  else a

/-- R64: the entry to disconnect. -/
def Adm.enterLvd (a : Adm) : Adm :=
  let list := a.granted ++ a.queue
  let a1 := list.foldl Adm.toResume { a with floorGrant := 0 }
  let a2 := { a1 with resume := list, queue := [], granted := [] }
  let a3 := if a.floorGrant = 0 ∨ a.entries[lightEntry].state = .granted ∨ 0 < a.entries[lightEntry].grant then a2
    else a2.note lightEntry .lvd
  let a4 := allEntries.foldl Adm.hold a3
  { a4 with lvd := true, entryTimer := 0, exitTimer := 0 }

/-- A held ESSENTIAL entry is granted at its rating (R66). -/
def Adm.unhold (a : Adm) (e : Fin 20) : Adm :=
  let x := a.entries[e]
  if x.state = .waiting ∧ x.cls = .essential then
    (a.setEntry e { x with state := .granted, grant := x.rating, pass := 0 }).note e .granted
  else a

/-- R66: the exit from disconnect. -/
def Adm.exitLvd (a : Adm) : Adm :=
  let a1 := allEntries.foldl Adm.unhold { a with lvd := false, entryTimer := 0, exitTimer := 0 }
  let a2 := if a1.entries[lightEntry].state = .off then a1
    else ({ a1 with floorGrant := a1.floorWanted }).note lightEntry .granted
  let a3 := a2.resume.foldl (fun b e => b.setEntry e { b.entries[e] with pass := 0 }) a2
  { a3 with queue := a2.resume, resume := [] }

/-! ### The budget event -/

/-- R51: the taper factor. -/
def taper (estimated : Bool) (socEff sc sr : Nat) : Nat :=
  if !estimated then 0
  else if sc ≤ socEff then 1000
  else if socEff ≤ sr then 0
  else (socEff - sr) * 1000 / (sc - sr)

/-- R52: the band of a taper factor. -/
def bandOf (f : Nat) : Band := if f = 1000 then .opened else if f = 0 then .closed else .taper

/-- R51: the budget. -/
def budgetOf (t : Settings) (factor f : Nat) : Nat := min t.bcap (t.bmax * factor / 1000 + f)

/-- Stage 2 of a budget event (R51, R52): factor, budget and band. -/
def Adm.form (a : Adm) (t : Settings) (acc : Account) (f : Nat) : Adm :=
  let factor := taper acc.estimated acc.socEff t.battery.comfort t.battery.reserve
  { a with
    factor := factor
    budget := if a.lvd then 0 else budgetOf t factor f
    band := bandOf factor
    socUsed := acc.socEff
    fUsed := f }

/-- R63: what a sample's voltage and the drive state do to the disconnect timers. -/
def Adm.timers (a : Adm) (vLvd p : Nat) (ds : DriveState) (v : Reading) : Adm :=
  if ds = .cranking then a
  else match v.validValue with
    | none => a
    | some volt =>
      let low := decide (volt < (vLvd : Int))
      let high := decide ((vLvd + Config.lvdExitMargin : Nat) ≤ volt)
      { a with
        entryTimer := if a.lvd then a.entryTimer else if low then a.entryTimer + p else 0
        exitTimer := if a.lvd then (if high then a.exitTimer + p else 0) else a.exitTimer }

/-- Stages 2 to 4 of a budget event over the whole state (R50): the budget and its band, the shed pass and the admission
pass in NORMAL; BUDGET_BAND and SHED are raised where they fall. -/
def budgetStages (s : State) : State :=
  let a1 := s.adm.form s.settings s.account s.drive.f
  let s1 := s.withAdm a1
  let s2 := if a1.band = s.adm.band then s1 else raise .budgetBand .budget 0 s1
  if a1.lvd then s2
  else
    let r := a1.shedPass s.settings
    let s3 := r.2.foldl (fun b e => raise .shed .load e.val b) (s2.withAdm r.1)
    s3.withAdm r.1.pass

/-- The entry to disconnect with its notice (R64). -/
def enterDisconnect (s : State) : State := raise .lvd .budget 0 (s.withAdm s.adm.enterLvd)

/-- The exit from disconnect with its notice (R66). -/
def exitDisconnect (s : State) : State := raise .lvd .budget 0 (s.withAdm s.adm.exitLvd)

/-- Stage 1 of a budget event (R50, R63). -/
def disconnectStage (x : Sample) (s : State) : State :=
  let s1 := s.withAdm (s.adm.timers s.settings.battery.vLvd s.period s.drive.state (readBattV x))
  if s1.adm.lvd then
    (if s1.adm.exitTimer ≥ Config.lvdExitLimit then exitDisconnect s1 else s1)
  else
    (if s1.adm.entryTimer ≥ Config.lvdEntryLimit then enterDisconnect s1 else s1)

/-- R50: the budget event of a sample, less the handing of its changes (R47), which follows. -/
def budgetEvent (x : Sample) (s : State) : State := budgetStages (disconnectStage x s)

/-- The LVD entry timer reaches 30 s (R63, R64): in NORMAL, outside CRANKING. -/
def lvdEntryReached (s : State) : State :=
  if s.adm.lvd ∨ s.drive.state = .cranking then s else budgetStages (enterDisconnect s)

/-- The LVD exit timer reaches 60 s (R63, R66): in LVD, outside CRANKING. -/
def lvdExitReached (s : State) : State :=
  if !s.adm.lvd ∨ s.drive.state = .cranking then s else budgetStages (exitDisconnect s)

/-! ### The owners' requests over the whole state -/

/-- An owner requests an entry (R42 to R46). -/
def request (e : Fin 20) (c : LoadClass) (rating : Nat) (s : State) : State := s.withAdm (s.adm.request e c rating)

/-- An owner releases an entry (R45). -/
def release (e : Fin 20) (s : State) : State := s.withAdm (s.adm.release e)

/-- A LOAD_SET taken by the controller for the general outputs (R48). DESIGN CHOICE (log entry 47): an entry from 0 to 6 named
with a switch value other than ON or OFF is refused RANGE, not ROLE. -/
def loadSet (entry switch : Nat) (s : State) : Status × State :=
  if h : entry < 20 then
    if switch > 1 then (.range, s)
    else if entry < 7 then (.role, s)
    else
      let e : Fin 20 := ⟨entry, h⟩
      if switch = 0 then (.done, release e s)
      else if s.adm.entries[e].state = .off then
        (.done, request e (s.settings.restClass e) (s.settings.restRating e) s)
      else (.done, s)
  else (.range, s)

end Sys2Proof.Machine
end

