-- ==== Sys2Proof/Machine/Sleep.lean ====
section
/-! DEFINITION. Parked sleep (chapter 11): the entry conditions, the idle timer, the wake causes and the quiet-wake
mark. -/

namespace Sys2Proof.Machine

/-- A motion record is at rest: IDLE or FAULT (section 6.1). -/
def MotionRec.atRest (r : MotionRec) : Bool := r.activity == .idle || r.activity == .fault

/-- No COMFORT or DEFERRABLE entry is GRANTED, and entry 5's elastic grant is 0 (section 11.1). -/
def Adm.quiet (a : Adm) : Bool :=
  a.entries.toList.all (fun x => !(x.counted && x.state == .granted)) && a.entries[(5 : Fin 20)].grant == 0

/-- The heater condition: OFF, STANDBY or LOCKOUT (section 11.1). -/
def HeaterState.quiet : HeaterState → Bool
  | .off => true
  | .standby => true
  | .lockout => true
  | _ => false

/-- The entry conditions of section 11.1, all nine. The current condition reads the latest sample as the account keeps
it; before the first sample its validity is ABSENT, and the condition fails. -/
def sleepReady (s : State) : Bool :=
  s.drive.state == .parked
    && s.motion.recs.awning.atRest && s.motion.recs.step.atRest
    && s.heater.state.quiet
    && s.water.pump != .running
    && s.adm.quiet
    && s.light.channels.toList.all (fun c => c.target == 0)
    && s.runner.run.isNone
    && s.saving.isNone
    && (s.account.validI == .valid && decide (s.account.lastI.natAbs < Config.wakeCurrent))

/-- The part leaves parked sleep: AWAKE, the next frame boundary a full frame period away (R148, R189). -/
def wake (quietMark : Bool) (s : State) : State :=
  (s.withSleep { state := .awake, idle := 0, quietMark := quietMark }).withLight { s.light with frameTimer := 0 }

/-- An entry condition fails: the part is AWAKE with the idle timer at 0 and the quiet-wake mark clear; out of PARKED_SLEEP
it wakes (R187, R189, R190). -/
def conditionFails (s : State) : State :=
  match s.sleep.state with
  | .parkedSleep => wake false s
  | .awake => s.withSleep { state := .awake, idle := 0, quietMark := false }
  | .sleepPending => s.withSleep { state := .awake, idle := 0, quietMark := false }

/-- The entry conditions are judged (R187, R189, R190), as section 11.1 has it at each change of the state concerned, within
the event that made the change: after each act of a block that can change one (log entry 22). One that fails and holds
again within the event has so returned the part to AWAKE and started the idle timer anew. -/
def judgeSleep (s : State) : State :=
  if sleepReady s then
    match s.sleep.state with
    | .awake => s.withSleep { s.sleep with state := .sleepPending, idle := 0 }
    | .sleepPending => s
    | .parkedSleep => s
  else conditionFails s

/-- A wake cause other than a validated start bit (R187, R189, R190). -/
def wakeCause (s : State) : State :=
  match s.sleep.state with
  | .parkedSleep => wake false s
  | .sleepPending => s.withSleep { s.sleep with idle := 0, quietMark := false }
  | .awake => s.withSleep { s.sleep with quietMark := false }

/-- A validated start bit as a wake cause: it wakes a sleeping part with the quiet-wake mark set, and leaves the timer and
the mark of a waking one as they stand (R187, R189). -/
def wakeStartBit (s : State) : State :=
  match s.sleep.state with
  | .parkedSleep => wake true s
  | .sleepPending => s
  | .awake => s

/-- A frame arrival that is not a DRIVE on the VEHICLE port: it restarts a pending idle timer (R187) and clears the
quiet-wake mark (R190). -/
def sleepFrame (s : State) : State :=
  match s.sleep.state with
  | .sleepPending => s.withSleep { s.sleep with idle := 0, quietMark := false }
  | .parkedSleep => s.withSleep { s.sleep with quietMark := false }
  | .awake => s.withSleep { s.sleep with quietMark := false }

/-- A DRIVE frame that turns out to be no quiet report clears the mark as any other frame arrival does (R190), at the moment it
turns out (DESIGN CHOICE, log entry 27). -/
def clearQuietMark (s : State) : State := s.withSleep { s.sleep with quietMark := false }

/-- A quiet report is taken (R190): with the mark set and every entry condition holding the part returns to
PARKED_SLEEP; with the mark clear nothing changes. -/
def quietReport (s : State) : State :=
  if s.sleep.quietMark && sleepReady s then s.withSleep { state := .parkedSleep, idle := 0, quietMark := false } else s

/-- The idle timer has reached 60 s (R187), in SLEEP_PENDING; a restart taken first leaves it at 0, and the part stays. -/
def idleReached (s : State) : State :=
  if s.sleep.state = .sleepPending ∧ Config.idleLimit ≤ s.sleep.idle then s.withSleep { s.sleep with state := .parkedSleep, idle := 0 } else s

end Sys2Proof.Machine
end

