-- ==== Sys2Proof/Machine/Water.lean ====
section
/-! DEFINITION. Water services (chapter 4): scans and level acceptance, the fresh volume estimate, the flow meter, the
pump and the tank heat pads. -/

namespace Sys2Proof.Machine

/-- Entry 4, PUMP, and entry 6, TANK_HEAT. -/
abbrev pumpEntry : Fin 20 := 4
abbrev padEntry : Fin 20 := 6

/-- The mark M[k]: 0 at k = 0, and the capacity at k = n + 1 (section 4.1). DESIGN CHOICE (log entry 42): 0 beyond the marks, which a
step kept over a RESTART that reloads a smaller count can name. -/
def TankSettings.mark (t : TankSettings) : Nat → Nat
  | 0 => 0
  | k + 1 => t.marks.getD k 0

/-! ### The pump -/

/-- R79's action for an ACTIVE demand in READY: entry 4 is requested. -/
def pumpAsk (s : State) : State :=
  request pumpEntry .essential 500 (s.withWater { s.water with requested := true })

/-- R79's action in READY where the recorded demand is ACTIVE. -/
def pumpReady (s : State) : State :=
  let s1 := s.withWater { s.water with pump := .ready, lock := .none }
  if s.water.demand then pumpAsk s1 else s1

/-- The pump leaves for another state: output off, dry timer 0, entry 4 released if requested. -/
def pumpStop (dest : PumpState) (lock : LockCause) (s : State) : State :=
  let s1 := s.withWater { s.water with pump := dest, lock := lock, dryTimer := 0, requested := false }
  if s.water.requested then release pumpEntry s1 else s1

/-- R81: the pump locks for want of flow. -/
def dryLock (s : State) : State := raise .pumpLock .water 0 (pumpStop .dryLock .dry s)

/-- R81: the dry limit for the FRESH step in force. -/
def dryLimitOf (s : State) : Nat :=
  if s.tanks.fresh.step = some 0 then Config.dryLimitEmpty else Config.dryLimit

/-- The dry timer has reached its limit (R81), while the pump is RUNNING; a pulse taken first has restarted the timer, and the
expiry does not happen. -/
def dryReached (s : State) : State :=
  if s.water.pump = .running ∧ dryLimitOf s ≤ s.water.dryTimer then dryLock s else s

/-- PUMP (R78). -/
def pumpSwitch (switch : Nat) (s : State) : Status × State :=
  if switch > 1 then (.range, s)
  else if switch = 1 then
    match s.water.pump with
    | .disabled => (.done, pumpReady s)
    | .ready => (.done, s)
    | .running => (.done, s)
    | .dryLock => (.done, pumpReady s)
    | .frostLock => (.frost, s)
  else
    match s.water.pump with
    | .disabled => (.done, s)
    | .ready => (.done, pumpStop .disabled .none s)
    | .running => (.done, pumpStop .disabled .none s)
    | .dryLock => (.done, pumpStop .disabled .none s)
    | .frostLock => (.done, s)

/-- A switch change of the pressure switch (R79); an ACTIVE demand is a wake cause. -/
def pressureChange (active : Bool) (s : State) : State :=
  let s1 := s.withWater { s.water with demand := active }
  if active then
    let s2 := wakeCause s1
    match s.water.pump with
    | .ready => if s.water.requested then s2 else pumpAsk s2
    | _ => s2
  else
    match s.water.pump with
    | .ready => pumpStop .ready .none s1
    | .running => pumpStop .ready .none s1
    | _ => s1

/-- The water block takes a change of grant of entry 4 (R80). -/
def pumpGrant (c : Cause) (s : State) : State :=
  match c with
  | .granted =>
    if s.water.pump = .ready && s.water.requested && s.water.demand && s.adm.isGranted pumpEntry then
      s.withWater { s.water with pump := .running, dryTimer := 0 }
    else s
  | .lvd =>
    if s.water.pump = .running then s.withWater { s.water with pump := .ready, dryTimer := 0 } else s
  | _ => s

/-- The frost guard hands the water block an opening of the drain (R83). -/
def pumpDrainOpened (s : State) : State := raise .pumpLock .water 0 (pumpStop .frostLock .frost s)

/-- The frost guard hands the water block a closing of the drain (R83). -/
def pumpDrainClosed (s : State) : State :=
  if s.water.pump = .frostLock then s.withWater { s.water with pump := .disabled, lock := .none } else s

/-! ### Scans -/

/-- R69: a scan of the tank begins: the pull-ups on, the scan timer restarted with the period in force. -/
def scanStart (t : TankId) (s : State) : State :=
  let period := if s.sleep.state = .parkedSleep then Config.scanPeriodAsleep else Config.scanPeriodAwake
  s.setTank t { s.tanks.get t with settle := .settling, settleTime := 0, scanTimer := 0, scanPeriod := period }

/-- R70: the WET electrodes counted from electrode 1, stopping at the first DRY one. -/
def contiguous : List Bool → Nat
  | true :: rest => contiguous rest + 1
  | _ => 0

/-- R70: some WET electrode lies above a DRY one. -/
def hasGap (r : List Bool) : Bool := (r.drop (contiguous r)).any id

/-- The readings of electrodes 1 to n; inputs above the count are not read (section 4.1). -/
def electrodes (n : Nat) (wet : Byte) : List Bool := (List.range n).map fun k => wet.getLsbD k

/-- R70: the readings are recorded; a change of the gap fault raises TANK_FAULT. -/
def recordReading (t : TankId) (r : List Bool) (s : State) : State :=
  let k := s.tanks.get t
  let s1 := s.setTank t { k with readings := r, gap := hasGap r, settle := .idle }
  if hasGap r = k.gap then s1 else raise .tankFault .tank (tankIndex t) s1

/-- R73, for the GREY or BLACK tank: the full latch at an acceptance of step `c`. -/
def acceptWaste (t : TankId) (c : Nat) (s : State) : State :=
  let k := s.tanks.get t
  if c = (s.settings.tank t).count then
    (if k.full then s else raise .tankFull .tank (tankIndex t) (s.setTank t { k with full := true }))
  else s.setTank t { k with full := false }

/-- R81: a RUNNING pump locks at an acceptance of step 0 with the dry timer at 20 s or more. DEDUCED (log entry 30): an
acceptance of 0 over UNKNOWN does so as a fall to 0 does, since the limit is then 20 s. -/
def dryAtEmpty (c : Nat) (s : State) : State :=
  if c = 0 ∧ s.water.pump = .running ∧ Config.dryLimitEmpty ≤ s.water.dryTimer then dryLock s else s

/-- R74, R76, R81, R82, for the FRESH tank: an acceptance of step `c` over the step `old`. -/
def acceptFresh (old : Option Nat) (c : Nat) (s : State) : State :=
  let m := s.settings.fresh
  let rise := match old with
    | none => true
    | some o => decide (o < c)
  let v := if rise then m.mark c else min (s.water.vEst.getD (m.mark (c + 1))) (m.mark (c + 1))
  let drawn := if rise && c == m.count then 0 else s.water.drawn
  let s1 := s.withWater { s.water with vEst := some v, drawn := drawn }
  if rise && decide (1 ≤ c) then (if s1.water.pump = .dryLock then pumpReady s1 else s1) else dryAtEmpty c s1

/-- R71: a count is accepted as the tank's step; TANK_LEVEL is raised and the tank's volume rules follow. -/
def acceptStep (t : TankId) (c : Nat) (s : State) : State :=
  let k := s.tanks.get t
  let s1 := raise .tankLevel .tank (tankIndex t) (s.setTank t { k with step := some c })
  match t with
  | .fresh => acceptFresh k.step c s1
  | .grey => acceptWaste .grey c s1
  | .black => acceptWaste .black c s1

/-- R71: the count is compared with the last one. -/
def judgeCount (t : TankId) (c : Nat) (s : State) : State :=
  let k := s.tanks.get t
  if k.last = some c then
    (if k.step = some c then s else acceptStep t c s)
  else s.setTank t { k with last := some c }

/-- The scan completion of a tank (R70, R71): a scan in its settle takes its reading; one that a WRITE has voided takes none
(R68); without a scan under way there is no completion. DESIGN CHOICE (log entry 35): a completion given before the settle has
lasted 50 ms takes its reading all the same (R69). -/
def scanComplete (t : TankId) (wet : Byte) (s : State) : State :=
  match (s.tanks.get t).settle with
  | .idle => s
  | .void => s.setTank t { s.tanks.get t with settle := .idle }
  | .settling =>
    let r := electrodes (s.settings.tank t).count wet
    judgeCount t (contiguous r) (recordReading t r s)

/-! ### The flow meter -/

/-- R75, R76: one pulse of the flow meter. -/
def flowPulse (s : State) : State :=
  let w := s.water
  let v := s.settings.pulseVolume
  let est := match s.tanks.fresh.step, w.vEst with
    | some c, some e => some (max (s.settings.fresh.mark c) (e - v))
    | _, e => e
  s.withWater { w with
    pulses := countTo Config.counterStop w.pulses
    drawn := min Config.counterStop (w.drawn + v)
    vEst := est
    dryTimer := if w.pump = .running then 0 else w.dryTimer }

/-! ### The tank heat pads -/

/-- R84: the pads act on the water temperature in use at a sample event. -/
def padsSample (water : Option Int) (s : State) : State :=
  match water with
  | none => s
  | some temp =>
    if s.water.asking then
      (if 60 ≤ temp then release padEntry (s.withWater { s.water with asking := false }) else s)
    else if temp ≤ 40 then request padEntry .deferrable 600 (s.withWater { s.water with asking := true })
    else s

end Sys2Proof.Machine
end

