-- ==== Sys2Proof/Machine/Heater.lean ====
section
/-! DEFINITION. The heater and the frost guard (chapter 5): the start, run and purge sequence, the thermostat, the water
temperature in use, frost-keep and the drain valve. -/

namespace Sys2Proof.Machine

/-- Entries 0, FROST_HOLD, 2, HEATER_FAN and 3, HEATER_GLOW. -/
abbrev holdEntry : Fin 20 := 0
abbrev fanEntry : Fin 20 := 2
abbrev glowEntry : Fin 20 := 3

/-! ### The drain valve -/

/-- R105: the drain opens: the hold is released, the water block is handed the opening, DRAIN is raised. -/
def openDrain (r : DrainReason) (s : State) : State :=
  let s1 := release holdEntry (s.withFrost { s.frost with drainOpen := true, reason := r })
  raise .drain .water 0 (pumpDrainOpened s1)

/-- R105: the drain closes: the hold is requested and granted, the water block is handed the closing, DRAIN is raised. -/
def closeDrain (s : State) : State :=
  let s1 := request holdEntry .prot 30 (s.withFrost { s.frost with drainOpen := false, reason := .none })
  raise .drain .water 0 (pumpDrainClosed s1)

/-- R106: the reason for which frost release opens the drain, if it does. -/
def releaseReason (s : State) : Option DrainReason :=
  if !s.settings.frostGuard || s.frost.drainOpen || s.heater.state == .run || s.heater.state == .purge then none
  else match s.frost.water with
    | none => some .sensor
    | some temp => if temp ≤ 30 then some .frost else none

/-- Frost release (R106), judged at each sample event and at each change of heater state. -/
def frostRelease (s : State) : State :=
  match releaseReason s with
  | none => s
  | some r => openDrain r s

/-- OPEN_DRAIN (R107). -/
def openDrainRequest (s : State) : Status × State :=
  if s.frost.drainOpen then (.done, s) else (.done, openDrain .request s)

/-- CLOSE_DRAIN (R108). -/
def closeDrainRequest (s : State) : Status × State :=
  if !s.frost.drainOpen then (.done, s)
  else if !s.settings.frostGuard then (.done, closeDrain s)
  else match s.frost.water with
    | none => (.frost, s)
    | some temp => if 70 ≤ temp then (.done, closeDrain s) else (.frost, s)

/-! ### The heater's states -/

/-- The heater enters a state with its phase timer at 0 and without demand or flame-out timing (section 5.2). -/
def enterState (h : HeaterState) (s : State) : State :=
  s.withHeater { s.heater with state := h, phase := 0, demand := none, flameRunning := false, flameTimer := 0 }

/-- R91: a start: WAIT_GRANT with entry 3 requested. DESIGN CHOICE (log entry 44): the heater's own requests and releases at a
change of its state come before the frost guard judges it (R106), here and at every other change. -/
def startHeater (s : State) : State :=
  frostRelease (request glowEntry .comfort 800 (enterState .waitGrant s))

/-- R96: entry to PURGE. -/
def purge (r : PurgeReason) (s : State) : State :=
  let s1 := enterState .purge s
  let s2 := release glowEntry (s1.withHeater { s1.heater with reason := r })
  frostRelease (request fanEntry .prot 180 s2)

/-- The heater comes to rest in a state that holds no entry (section 5.2). -/
def restHeater (h : HeaterState) (s : State) : State :=
  let s1 := enterState h s
  frostRelease (release fanEntry (release glowEntry s1))

/-- A change of mode with its effect on the heater state (R91 to R97); a mode that is already in force changes nothing. -/
def setMode (m : HeatMode) (s : State) : State :=
  let s1 := s.withHeater { s.heater with mode := m }
  if m = s.heater.mode then s1
  else match s.heater.state with
    | .off => if m = .off then s1 else startHeater s1
    | .waitGrant => if m = .off then restHeater .off s1 else s1
    | .run => if m = .off then purge .modeOff s1 else s1
    | .standby => if m = .off then restHeater .off s1 else s1
    | .glow => s1
    | .ignite => s1
    | .purge => s1
    | .lockout => s1

/-- A setpoint is taken, clamped (R89). -/
def takeSetpoint (temp : Int) (s : State) : State :=
  s.withSettings { s.settings with setpoint := clampInt 50 300 temp }

/-- HEAT (R88). While the heater is in LOCKOUT every HEAT is refused LOCKED, whatever its mode; that LOCKED comes before the
RANGE of another mode is DEDUCED (log entry 12). -/
def heatRequest (mode : Nat) (setpoint : Int) (s : State) : Status × State :=
  if s.heater.state = .lockout then (.locked, s)
  else if mode = 1 then (.done, setMode .comfort (takeSetpoint setpoint s))
  else if mode = 0 then
    (.done, setMode (if s.frost.keep then .frostKeep else .off) (takeSetpoint setpoint s))
  else (.range, s)

/-! ### Grants handed to the heater -/

/-- The mode after a stop by disconnect, and after a RESTART or a clear of LOCKOUT: FROST_KEEP while the flag is set. -/
def idleMode (s : State) : HeatMode := if s.frost.keep then .frostKeep else .off

/-- R99: the stop by disconnect. -/
def lvdStop (s : State) : State :=
  let s1 := purge .lvd (s.withHeater { s.heater with mode := idleMode s })
  raise .heater .heater 0 s1

/-- The heater takes a change of grant of entry 3 (R91, R92, R99). -/
def glowGrant (c : Cause) (s : State) : State :=
  match c with
  | .granted =>
    if s.heater.state = .waitGrant && s.adm.isGranted glowEntry then frostRelease (enterState .glow s) else s
  | .shed => if s.heater.state = .glow then frostRelease (enterState .waitGrant s) else s
  | .lvd => if s.heater.state = .glow then lvdStop s else s
  | _ => s

/-- The heater takes a change of grant of entry 2 (R99). -/
def fanGrant (c : Cause) (s : State) : State :=
  match c with
  | .lvd => if s.heater.state = .ignite || s.heater.state = .run then lvdStop s else s
  | _ => s

/-! ### The heater's timers -/

/-- The phase timer of a heater state has reached its limit. -/
def phaseOver (h : HeaterState) (limit : Nat) (s : State) : Bool := s.heater.state == h && decide (limit ≤ s.heater.phase)

/-- The glow timer has reached 45 s (R92); it does not run while CRANKING. -/
def glowReached (s : State) : State :=
  if phaseOver .glow Config.glowTime s && s.drive.state != .cranking then
    if s.heater.mode = .off then purge .modeOff s
    else
      let s1 := release glowEntry (enterState .ignite s)
      frostRelease (request fanEntry .essential 80 s1)
  else s

/-- The attempt count raised by 1, at most 2 (R93, R95). -/
def countAttempt (s : State) : State := s.withHeater { s.heater with attempts := min 2 (s.heater.attempts + 1) }

/-- The ignite timer has reached 90 s (R93); it does not run while CRANKING. -/
def igniteReached (s : State) : State :=
  if phaseOver .ignite Config.igniteTime s && s.drive.state != .cranking then purge .failedStart (countAttempt s) else s

/-- The flame-out timer has reached 20 s (R95); a sample taken first that clears it stops the expiry. -/
def flameOutReached (s : State) : State :=
  if s.heater.state = .run && s.heater.flameRunning && decide (Config.flameOutTime ≤ s.heater.flameTimer) then purge .flameOut (countAttempt s) else s

/-- R98: entry to LOCKOUT. -/
def enterLockout (cause : LockoutCause) (s : State) : State :=
  let s1 := s.withHeater { s.heater with mode := .off, lockout := cause }
  raise .heater .heater 0 (restHeater .lockout s1)

/-- The heater returns to OFF with its attempt count cleared (R96). -/
def heaterOff (s : State) : State := restHeater .off (s.withHeater { s.heater with attempts := 0 })

/-- R96's WAIT_GRANT after a purge: entry 2 released, entry 3 requested, the attempt count kept. DESIGN CHOICE (log entry 43): in
that order, each with its admission pass. -/
def restartHeater (s : State) : State := startHeater (release fanEntry s)

/-- The purge timer has reached 120 s (R96). -/
def purgeReached (s : State) : State :=
  if phaseOver .purge Config.purgeTime s then
    let r := s.heater.reason
    let s1 := s.withHeater { s.heater with reason := .none, phase := 0 }
    match r with
    | .failedStart =>
      if 2 ≤ s.heater.attempts then enterLockout .startFail s1
      else if s.heater.mode = .off then heaterOff s1 else restartHeater s1
    | .flameOut =>
      if 2 ≤ s.heater.attempts then enterLockout .flameOut s1
      else if s.heater.mode = .off then heaterOff s1 else restartHeater s1
    | .satisfied => if s.heater.mode = .off then heaterOff s1 else restHeater .standby s1
    | .modeOff => if s.heater.mode = .off then heaterOff s1 else restartHeater s1
    | .lvd => if s.heater.mode = .off then heaterOff s1 else restartHeater s1
    | .restart => if s.heater.mode = .off then heaterOff s1 else restartHeater s1
    | .none => if s.heater.mode = .off then heaterOff s1 else restartHeater s1
  else s

/-- CLEAR_LOCKOUT (R98). -/
def clearLockout (s : State) : Status × State :=
  if s.heater.state = .lockout then
    let s1 := s.withHeater { s.heater with attempts := 0, lockout := .none }
    (.done, setMode (idleMode s1) (restHeater .off s1))
  else (.done, s)

/-! ### Sample events -/

/-- R101: the cabin temperature in use. -/
def takeCabin (p : Nat) (r : Reading) (s : State) : State :=
  match r.value with
  | some temp => s.withHeater { s.heater with cabin := some temp, cabinAbsence := 0 }
  | none =>
    let t := s.heater.cabinAbsence + p
    s.withHeater { s.heater with cabinAbsence := t, cabin := if Config.minute ≤ t then none else s.heater.cabin }

/-- The setpoint used by the mode in force (section 5.1). -/
def usedSetpoint (s : State) : Int := if s.heater.mode = .frostKeep then 50 else s.settings.setpoint

/-- R94's error, where the cabin temperature in use has a value. -/
def heatError (s : State) : Option Int := s.heater.cabin.map fun c => usedSetpoint s - c

/-- The rating and fan current of a demand (R94). -/
def Demand.rating : Demand → Nat
  | .low => 80
  | .medium => 120
  | .high => 180

/-- R94: the demand of an error; none where RUN ends. -/
def demandOf (e : Int) : Option Demand :=
  if 20 ≤ e then some .high else if 5 ≤ e then some .medium else if -9 ≤ e then some .low else none

/-- R94: the demand is set, and entry 2 requested at its rating where it differs. -/
def setDemand (d : Demand) (s : State) : State :=
  if s.heater.demand = some d then s
  else request fanEntry .essential d.rating (s.withHeater { s.heater with demand := some d })

/-- R94: the thermostat's evaluation in RUN. -/
def thermostat (s : State) : State :=
  match heatError s with
  | none => setDemand .low s
  | some e =>
    match demandOf e with
    | some d => setDemand d s
    | none => purge .satisfied s

/-- The cabin absence time reaches 60 s (R101), while T_CABIN is ABSENT: there is no value, and RUN holds LOW demand (R94). -/
def cabinReached (s : State) : State :=
  if 0 < s.heater.cabinAbsence then
    let s1 := s.withHeater { s.heater with cabin := none, cabinAbsence := max Config.minute s.heater.cabinAbsence }
    if s1.heater.state = .run then setDemand .low s1 else s1
  else s

/-- R95: the exhaust in RUN starts or clears the flame-out timer. -/
def watchFlame (r : Reading) (s : State) : State :=
  match r.value with
  | some temp =>
    if Config.flameKeep ≤ temp then s.withHeater { s.heater with flameRunning := false, flameTimer := 0 }
    else s.withHeater { s.heater with flameRunning := true }
  | none => s.withHeater { s.heater with flameRunning := true }

/-- R93: a flame is seen. -/
def flameSeen (r : Reading) : Bool :=
  match r.value with
  | some temp => decide (Config.flameExhaust ≤ temp)
  | none => false

/-- R93: what a flame does in IGNITE. DESIGN CHOICE (log entry 46): it clears the attempt count in a retry too, as R93 states,
although R96 has a flame-out in the retry bring the count to 2; a flame-out after it so gives 1, and no LOCKOUT by FLAME_OUT. -/
def flameCatches (s : State) : State :=
  let s1 := s.withHeater { s.heater with attempts := 0 }
  if s.heater.mode = .off then purge .modeOff s1 else thermostat (frostRelease (enterState .run s1))

/-- The heater takes a sample event (R93 to R95, R97, R101). -/
def heaterSample (x : Sample) (s : State) : State :=
  let s1 := takeCabin s.period (readTCabin x) s
  match s1.heater.state with
  | .ignite => if flameSeen (readTExhaust x) then flameCatches s1 else s1
  | .run => thermostat (watchFlame (readTExhaust x) s1)
  | .standby =>
    match heatError s1 with
    | some e => if 10 ≤ e then startHeater s1 else s1
    | none => s1
  | .off => s1
  | .waitGrant => s1
  | .glow => s1
  | .purge => s1
  | .lockout => s1

/-! ### The frost guard -/

/-- R103: the water temperature in use at a sample. -/
def selectWater (f : Frost) (p : Nat) (bay cabin : Reading) : Frost :=
  match bay.value, cabin.value with
  | some temp, _ => { f with water := some temp, source := .waterBay, hold := 0 }
  | none, some temp => { f with water := some temp, source := .cabin, hold := 0 }
  | none, none =>
    let t := f.hold + p
    if Config.minute ≤ t then { f with water := none, source := .none, hold := t }
    else { f with source := if f.water.isSome then .held else .none, hold := t }

/-- R104: the flag changes, and the heater's mode with it. -/
def setKeep (on : Bool) (s : State) : State :=
  let s1 := s.withFrost { s.frost with keep := on }
  if on = s.frost.keep || s.heater.state = .lockout then s1
  else if on then (if s.heater.mode = .off then setMode .frostKeep s1 else s1)
  else (if s.heater.mode = .frostKeep then setMode .off s1 else s1)

/-- R104: the flag judged from the value in use. -/
def judgeKeep (s : State) : State :=
  match s.frost.water with
  | none => s
  | some temp =>
    if 80 ≤ temp then setKeep false s
    else if temp ≤ 50 && s.settings.frostGuard then setKeep true s
    else s

/-- The value in use is 5.0 degrees or less with the guard ON: a wake cause (R103, R189). -/
def coldWater (s : State) : Bool :=
  s.settings.frostGuard && (match s.frost.water with
    | some temp => decide (temp ≤ 50)
    | none => false)

/-- The frost guard takes a sample event (R103, R104, R106): it selects the value, hands it to the water block (R84) and
judges flag and release. -/
def frostSample (x : Sample) (s : State) : State :=
  let s1 := s.withFrost (selectWater s.frost s.period (readTWaterBay x) (readTCabin x))
  let s2 := if coldWater s1 then wakeCause s1 else s1
  frostRelease (judgeKeep (padsSample s2.frost.water s2))

/-- The water hold time reaches 60 s (R103), while both sensors are ABSENT: there is no value, and frost release is judged
(R106). -/
def waterHoldReached (s : State) : State :=
  if 0 < s.frost.hold then
    frostRelease (s.withFrost { s.frost with water := none, source := .none, hold := max Config.minute s.frost.hold })
  else s

/-- The frost guard setting is written (R109). -/
def setFrostGuard (on : Bool) (s : State) : State :=
  let s1 := s.withSettings { s.settings with frostGuard := on }
  if on then s1 else setKeep false s1

end Sys2Proof.Machine
end

