-- ==== Sys2Proof/Machine/Motion.lean ====
section
/-! DEFINITION. The motion sequencer (chapter 6): the two records, the shared driver, MOVE, STOP_MOTION and CLEAR_FAULT,
the ends of a motion, and what a change of drive state does. -/

namespace Sys2Proof.Machine

/-- Entry 1, MOTOR. -/
abbrev motorEntry : Fin 20 := 1

/-- A record in flight (section 6.1). -/
def MotionRec.inFlight (r : MotionRec) : Bool := !r.atRest

/-- The end switch of a direction. -/
def MotionRec.endActive (r : MotionRec) (d : Direction) : Bool :=
  match d with
  | .deploy => r.deployedSw
  | .stow => r.stowedSw

/-- The opposite direction. -/
def Direction.opposite : Direction → Direction
  | .deploy => .stow
  | .stow => .deploy

/-- The end switch of the direction is active and the other inactive (R115, R119). -/
def MotionRec.atEnd (r : MotionRec) (d : Direction) : Bool := r.endActive d && !r.endActive d.opposite

/-- Both end switches stand active (section 6.1). -/
def MotionRec.conflict (r : MotionRec) : Bool := r.stowedSw && r.deployedSw

/-- The position field's values (section 6.1). -/
inductive Position where
  | stowed | deployed | between | unknown
  deriving DecidableEq, Repr

/-- R111: the position: BETWEEN while the motor has run in a motion in flight, else from the switches. -/
def MotionRec.position (r : MotionRec) : Position :=
  if r.activity = .moving ∨ r.activity = .paused ∨ r.activity = .reversing then .between
  else match r.stowedSw, r.deployedSw with
    | true, true => .unknown
    | true, false => .stowed
    | false, true => .deployed
    | false, false => .between

/-- A deploy in flight. -/
def MotionRec.deploying (r : MotionRec) : Bool := r.inFlight && r.direction == some .deploy

/-- The driver field's values (section 6.1). -/
inductive DriverRole where
  | none | holder | waiter
  deriving DecidableEq, Repr

/-- A record's place at the arbiter (R112). -/
def Motion.role (m : Motion) (a : Actuator) : DriverRole :=
  if m.holder = some a then .holder else if m.waiter = some a then .waiter else .none

/-- The class of entry 1 for a direction (section 3.1). -/
def Direction.cls : Direction → LoadClass
  | .deploy => .comfort
  | .stow => .prot

/-- The rating of entry 1 for an actuator (R115). -/
def motorRating : Actuator → Nat
  | .awning => 1200
  | .step => 600

/-- The sequencer hands the runner the end of a motion whose requester is ROUTINE (R130). -/
def handEnd (was : Option Requester) (r : MotionResult) (s : State) : State :=
  if was = some .routine then s.withRunner { s.runner with handed := some r } else s

/-- A record comes to rest (R118, R119, R121, R122): motor off, entry 1 released by the holder, the record out of the
arbiter, MOTION raised, and the end handed to the runner. The driver is not passed on here. DESIGN CHOICE (log entry 31): the
grant wait timer and the reversal timer stand at 0 once the motion has ended. -/
def restRecord (a : Actuator) (act : Activity) (k : FaultKind) (res : MotionResult) (s : State) : State :=
  let r := s.motionRec a
  let wasHolder := s.motion.holder == some a
  let s1 := s.setRec a { r with
    activity := act, direction := none, requester := none, stallTimer := 0, surge := false
    grantWait := 0, reversal := 0, fault := k, result := res }
  let s2 := s1.withMotion { s1.motion with
    holder := if wasHolder then none else s1.motion.holder
    waiter := if s1.motion.waiter = some a then none else s1.motion.waiter }
  let s3 := if wasHolder then release motorEntry s2 else s2
  handEnd r.requester res (raise .motion .motion (actuatorIndex a) s3)

/-- The record starts to run its motor: MOVING, or PAUSED while CRANKING (R115, R126). DESIGN CHOICE (log entry 31): the grant
wait timer and the reversal timer then stand at 0. -/
def runMotor (a : Actuator) (s : State) : State :=
  let r := s.motionRec a
  let act : Activity := if s.drive.state = .cranking then .paused else .moving
  s.setRec a { r with activity := act, stallTimer := 0, surge := true, grantWait := 0, reversal := 0 }

/-- A record that has taken the driver goes on (R115, R119): at its end it completes at once; a stow is granted and runs; a
deploy waits for its grant. `last` says what follows its completion. -/
def holdDriver (a : Actuator) (last : State → State) (s : State) : State :=
  let r := s.motionRec a
  match r.direction with
  | none => s
  | some d =>
    if r.atEnd d then last (restRecord a .idle .none .done s)
    else match d with
      | .stow => runMotor a (request motorEntry .prot (motorRating a) s)
      | .deploy =>
        request motorEntry .comfort (motorRating a) (s.setRec a { r with activity := .waitGrant, grantWait := 0 })

/-- R112: the driver is free and the waiter, if there is one, takes it. The waiter left behind by no second record, its own
completion passes the driver to no one. -/
def passDriver (s : State) : State :=
  match s.motion.holder, s.motion.waiter with
  | none, some a => holdDriver a id (s.withMotion { s.motion with holder := some a, waiter := none })
  | _, _ => s

/-- A motion ends, and the driver passes to the waiter (R112). -/
def endMotion (a : Actuator) (act : Activity) (k : FaultKind) (res : MotionResult) (s : State) : State :=
  passDriver (restRecord a act k res s)

/-- A motion ends in FAULT (R121). -/
def faultMotion (a : Actuator) (k : FaultKind) (res : MotionResult) (s : State) : State := endMotion a .fault k res s

/-- The stop of a record's motion with a result (R122, R124, R128); a record at rest is left alone. -/
def stopRecord (a : Actuator) (res : MotionResult) (s : State) : State :=
  if (s.motionRec a).inFlight then endMotion a .idle .none res s else s

/-- R122, for ALL: the waiter is taken out before the holder releases the driver. -/
def stopBoth (res : MotionResult) (s : State) : State :=
  match s.motion.waiter with
  | some w => stopRecord (otherActuator w) res (stopRecord w res s)
  | none => stopRecord .step res (stopRecord .awning res s)

/-- R115: a motion starts: the record asks the arbiter for the driver (R112). -/
def startMotion (a : Actuator) (d : Direction) (q : Requester) (s : State) : State :=
  let s1 := s.setRec a { s.motionRec a with
    direction := some d, requester := some q, travel := 0, stallTimer := 0
    limit := (s.settings.motion a).travelLimit }
  match s.motion.holder with
  | none => holdDriver a passDriver (s1.withMotion { s1.motion with holder := some a })
  | some _ =>
    let s2 := s1.setRec a { s1.motionRec a with activity := .waitDriver }
    s2.withMotion { s2.motion with waiter := some a }

/-- The requester of a record is replaced: a routine's motion taken from it is handed back (R130, R155). -/
def replaceRequester (a : Actuator) (q : Requester) (res : MotionResult) (s : State) : State :=
  let r := s.motionRec a
  let s1 := s.setRec a { r with requester := some q }
  if q = .routine then s1 else handEnd r.requester res s1

/-- A direction changed while the record holds the driver (R116, R117, R119), its motion starting anew (R121): at the new
direction's end it completes at once, else `go` follows. -/
def turnHolder (a : Actuator) (d : Direction) (go : State → State) (s : State) : State :=
  let s1 := s.setRec a { s.motionRec a with
    direction := some d, travel := 0, stallTimer := 0, surge := false, grantWait := 0, reversal := 0
    limit := (s.settings.motion a).travelLimit }
  if (s1.motionRec a).atEnd d then endMotion a .idle .none .done s1 else go s1

/-- R117: a reversal. -/
def reverseMotion (a : Actuator) (d : Direction) (s : State) : State :=
  turnHolder a d (fun s1 =>
    request motorEntry d.cls (motorRating a) (s1.setRec a { s1.motionRec a with activity := .reversing })) s

/-- R116: a WAIT_GRANT deploy turned to a stow. -/
def turnWaiting (a : Actuator) (s : State) : State :=
  turnHolder a .stow (fun s1 => runMotor a (request motorEntry .prot (motorRating a) s1)) s

/-- R116, R117: a MOVE taken while a motion is in flight. -/
def moveInFlight (a : Actuator) (d : Direction) (q : Requester) (s : State) : Status × State :=
  let r := s.motionRec a
  if r.direction = some d then (.done, s)
  else match r.activity with
    | .waitDriver =>
      let s1 := replaceRequester a q .stopped s
      (.accepted, s1.setRec a { s1.motionRec a with direction := some d })
    | .waitGrant => (.accepted, turnWaiting a (replaceRequester a q .stopped s))
    | .moving => (.accepted, reverseMotion a d (replaceRequester a q .stopped s))
    | .reversing => (.accepted, reverseMotion a d (replaceRequester a q .stopped s))
    | .paused => (.interlock, s)
    | .idle => (.done, s)
    | .fault => (.locked, s)

/-- MOVE with its fields judged (R114 to R117): `remote` says that the role, of the port or of a routine's caller, is
REMOTE. -/
def moveTaken (a : Actuator) (d : Direction) (remote : Bool) (q : Requester) (s : State) : Status × State :=
  let r := s.motionRec a
  if d = .deploy && remote then (.role, s)
  else if r.activity = .fault then (.locked, s)
  else if d = .deploy && s.drive.state != .parked then (.interlock, s)
  else if r.activity = .idle then
    (if r.atEnd d then (.done, s) else (.accepted, startMotion a d q s))
  else moveInFlight a d q s

/-- The actuator of a request's code (section 10.6). -/
def actuatorOf : Nat → Option Actuator
  | 0 => some .awning
  | 1 => some .step
  | _ => none

/-- The direction of a request's code (section 10.6). -/
def directionOf : Nat → Option Direction
  | 0 => some .deploy
  | 1 => some .stow
  | _ => none

/-- MOVE (R114). -/
def moveRequest (act dir : Nat) (remote : Bool) (q : Requester) (s : State) : Status × State :=
  match actuatorOf act, directionOf dir with
  | some a, some d => moveTaken a d remote q s
  | _, _ => (.range, s)

/-- STOP_MOTION (R122). -/
def stopRequest (act : Nat) (s : State) : Status × State :=
  match act with
  | 0 => (.done, stopRecord .awning .stopped s)
  | 1 => (.done, stopRecord .step .stopped s)
  | 2 => (.done, stopBoth .stopped s)
  | _ => (.range, s)

/-- CLEAR_FAULT (R123). -/
def clearFaultRequest (act : Nat) (s : State) : Status × State :=
  match actuatorOf act with
  | none => (.range, s)
  | some a =>
    let r := s.motionRec a
    if r.activity = .fault then
      (if r.conflict then (.locked, s) else (.done, s.setRec a { r with activity := .idle, fault := .none }))
    else (.done, s)

/-! ### Events of the sequencer -/

/-- A switch change of an end switch (R111, R119, R121). -/
def endSwitchChange (a : Actuator) (w : EndSwitch) (active : Bool) (s : State) : State :=
  let r0 := s.motionRec a
  let r := match w with
    | .stowed => { r0 with stowedSw := active }
    | .deployed => { r0 with deployedSw := active }
  let s1 := s.setRec a r
  let changed : Direction := match w with
    | .stowed => .stow
    | .deployed => .deploy
  match r.activity with
  | .fault => s1
  | .idle => if r.conflict then restRecord a .fault .switchConflict .switchConflict s1 else s1
  | _ =>
    if r.conflict then faultMotion a .switchConflict .switchConflict s1
    else if active && r.direction == some changed then endMotion a .idle .none .done s1
    else s1

/-- The reversal timer has reached 0.5 s (R117), while REVERSING. DESIGN CHOICE (log entry 31): the timer then stands
at 0. -/
def reversalReached (a : Actuator) (s : State) : State :=
  let r := s.motionRec a
  if r.activity = .reversing ∧ Config.reversalTime ≤ r.reversal then
    (if s.adm.isGranted motorEntry then runMotor a s
      else s.setRec a { r with activity := .waitGrant, reversal := 0 })
  else s

/-- The grant wait timer has reached 30 s (R118), in WAIT_GRANT. -/
def grantWaitReached (a : Actuator) (s : State) : State :=
  let r := s.motionRec a
  if r.activity = .waitGrant ∧ Config.grantWaitTime ≤ r.grantWait then endMotion a .idle .none .noBudget s else s

/-- The stall timer reaches 300 ms (R120), as a command of its own too (log entry 5). -/
def stallReached (a : Actuator) (s : State) : State :=
  if (s.motionRec a).activity = .moving then faultMotion a .stall .stall s else s

/-- Travel elapsed has reached the travel limit (R121), while the record is MOVING. -/
def travelReached (a : Actuator) (s : State) : State :=
  let r := s.motionRec a
  if r.activity = .moving ∧ r.limit * 100 ≤ r.travel then faultMotion a .travelTime .travelTime s else s

/-- R120: the first sample since a record entered MOVING leaves its stall timer at 0. -/
def surgePast (a : Actuator) (s : State) : State :=
  let r := s.motionRec a
  if r.activity = .moving ∧ r.surge = true then s.setRec a { r with surge := false, stallTimer := 0 } else s

/-- A sample event begins for the sequencer: a record that it finds MOVING has its first sample (R120). One that enters
MOVING later in the event has its first at the next. -/
def surgeSample (s : State) : State := surgePast .step (surgePast .awning s)

/-- R120: the stall timer after a sample's motor current. DEDUCED (log entry 14): a SATURATED value not above the threshold
moves it by no row of R120 and leaves it as it stands. -/
def stallAfter (t threshold p : Nat) (i : Reading) : Nat :=
  match i with
  | .valid v => if (threshold : Int) < v then t + p else 0
  | .saturated v => if (threshold : Int) < v then t + p else t
  | .absent => t

/-- R120: a MOVING record whose first sample lies behind it takes a sample's motor current. -/
def stallSample (a : Actuator) (p : Nat) (i : Reading) (s : State) : State :=
  let r := s.motionRec a
  if r.activity = .moving ∧ r.surge = false then
    let t := stallAfter r.stallTimer (s.settings.motion a).stallThreshold p i
    let s1 := s.setRec a { r with stallTimer := t }
    if Config.stallTime ≤ t then stallReached a s1 else s1
  else s

/-- The record was MOVING, its first sample behind it. -/
def MotionRec.watched (r : MotionRec) : Bool := r.activity == .moving && !r.surge

/-- The sequencer takes a sample event (R120): `was` are the records the event found, and the driver's holder is judged where
it was MOVING then with its first sample behind it, and is MOVING still. -/
def motionSample (was : Motion) (x : Sample) (s : State) : State :=
  match s.motion.holder with
  | some a => if (was.recs.get a).watched then stallSample a s.period (readMotorI x) s else s
  | none => s

/-- The sequencer takes a change of grant of entry 1 (R118, R124). -/
def motorGrant (c : Cause) (s : State) : State :=
  match s.motion.holder with
  | none => s
  | some a =>
    let r := s.motionRec a
    match c with
    | .granted =>
      if s.adm.isGranted motorEntry then
        match r.activity with
        | .waitGrant => runMotor a (s.setRec a { r with travel := 0 })
        | .reversing => s.setRec a { r with grantWait := 0 }
        | _ => s
      else s
    | .shed =>
      if r.deploying && (r.activity == .moving || r.activity == .reversing) then stopRecord a .shed s else s
    | .lvd =>
      if r.deploying && (r.activity == .moving || r.activity == .reversing) then stopRecord a .lvd s else s
    | _ => s

/-! ### The drive state -/

/-- R126: into CRANKING a MOVING record is PAUSED, with its stall timer at 0. -/
def pauseRecord (a : Actuator) (s : State) : State :=
  let r := s.motionRec a
  if r.activity = .moving then s.setRec a { r with activity := .paused, stallTimer := 0 } else s

/-- R126: out of CRANKING a PAUSED record is MOVING again. -/
def resumeRecord (a : Actuator) (s : State) : State :=
  let r := s.motionRec a
  if r.activity = .paused then s.setRec a { r with activity := .moving, stallTimer := 0, surge := true } else s

/-- R127: what a drive-away does to a record, its mark set. -/
def awayRecord (a : Actuator) (s : State) : State :=
  let r := s.motionRec a
  let marked (m : AwayMark) : State := s.setRec a { r with mark := m }
  match r.activity with
  | .idle => if r.position = .stowed then marked .none else startMotion a .stow .auto (marked .stowing)
  | .fault => marked .inFault
  | .waitDriver =>
    if r.direction = some .deploy then
      let s1 := replaceRequester a .auto .interlock (marked .stowing)
      s1.setRec a { s1.motionRec a with direction := some .stow }
    else marked .stowing
  | .waitGrant => turnWaiting a (replaceRequester a .auto .interlock (marked .stowing))
  | .moving =>
    if r.direction = some .deploy then reverseMotion a .stow (replaceRequester a .auto .interlock (marked .stowing))
    else marked .stowing
  | .reversing =>
    if r.direction = some .deploy then reverseMotion a .stow (replaceRequester a .auto .interlock (marked .stowing))
    else marked .stowing
  | .paused => marked .stowing

/-- R127: whether a record is concerned by a drive-away. -/
def MotionRec.concerned (r : MotionRec) : Bool := r.activity != .idle || r.position != .stowed

/-- R127: a drive-away over both records, a waiter before the holder whose end would hand it the driver; DRIVE_AWAY once. -/
def driveAway (s : State) : State :=
  let awning := (s.motionRec .awning).concerned
  let step := (s.motionRec .step).concerned
  let first : Actuator := if s.motion.waiter = some .step then .step else .awning
  let s1 := awayRecord (otherActuator first) (awayRecord first s)
  if awning then raise .driveAway .motion 0 s1
  else if step then raise .driveAway .motion 1 s1
  else s1

/-- R128: PARKED to UNKNOWN stops each deploy in flight, a waiter first. -/
def interlockDeploys (s : State) : State :=
  let stop (a : Actuator) (b : State) : State :=
    if (b.motionRec a).deploying then stopRecord a .interlock b else b
  let first : Actuator := if s.motion.waiter = some .step then .step else .awning
  stop (otherActuator first) (stop first s)

/-- R127: the change is a drive-away. -/
def isDriveAway (awayRef old new : DriveState) : Bool :=
  (new == .ready || new == .cranking || new == .moving)
    && (old == .parked || (old == .unknown && awayRef == .parked))

/-- The sequencer takes a change of drive state, already in force (R126 to R128). -/
def motionDriveChange (old new : DriveState) (s : State) : State :=
  let s1 := if old = .cranking then resumeRecord .step (resumeRecord .awning s) else s
  let s2 := if isDriveAway s.motion.awayRef old new then driveAway s1 else s1
  let s3 := if old = .parked ∧ new = .unknown then interlockDeploys s2 else s2
  let s4 := if new = .cranking then pauseRecord .step (pauseRecord .awning s3) else s3
  if new = .unknown then s4 else s4.withMotion { s4.motion with awayRef := new }

/-- R113: a motion record after power-on or RESTART with its switches as they stand. -/
def MotionRec.restart (r : MotionRec) (kept : MotionResult) : MotionRec :=
  { MotionRec.reset with
    stowedSw := r.stowedSw
    deployedSw := r.deployedSw
    activity := if r.conflict then .fault else .idle
    fault := if r.conflict then .switchConflict else .none
    result := kept }

end Sys2Proof.Machine
end

