-- ==== Sys2Proof/Machine/Lighting.lean ====
section
/-! DEFINITION. The lighting engine (chapter 7): scenes and fades, the ports' windows and staged rows, the demand and its
request, the frame boundary's stages and the duties. -/

namespace Sys2Proof.Machine

/-! ### Demand -/

/-- The sum over the channels of ceil(rated x duty / 65025) for the levels given (R143). -/
def demandSum (l : Light) (level : Fin 12 → Nat) : Nat :=
  ((List.finRange 12).map fun i => ceilDiv (l.rated[i] * (level i * level i)) Config.fullDuty).sum

/-- D_L, the lighting demand, from the targets (R143). -/
def Light.demand (l : Light) : Nat := demandSum l fun i => l.channels[i].target

/-- F_L, the floor, from the targets held at the night level (R143). -/
def Light.floor (l : Light) : Nat := demandSum l fun i => min l.channels[i].target l.night

/-- R143, R144: a floor `f` and a demand `d` are requested where they differ from those last asked for; a request to zero is
the release of entry 5, and sets the grant handed to zeros. -/
def askLight (f d : Nat) (s : State) : State :=
  let l := s.light
  if f = l.askedFloor ∧ d = l.askedFloor + l.askedElastic then s
  else
    let l1 := { l with askedFloor := f, askedElastic := d - f }
    if d = 0 ∧ f = 0 then
      release lightEntry (s.withLight { l1 with handedFloor := 0, handedElastic := 0 })
    else
      let s1 := s.withLight l1
      s1.withAdm (s1.adm.requestLighting f (d - f))

/-- R143: the demand is computed from the targets, rated currents and night level in force, and requested. -/
def lightDemand (s : State) : State := askLight s.light.floor s.light.demand s

/-- The engine takes a change of grant of entry 5: the latest handed stands (R144). -/
def lightGrant (g : GrantChange) (s : State) : State :=
  s.withLight { s.light with handedFloor := g.floor, handedElastic := g.amount }

/-! ### Scenes -/

/-- The scope of a request's code (section 10.6). -/
def scopeOf : Nat → Option Scope
  | 0 => some .all
  | 1 => some .zoneA
  | 2 => some .zoneB
  | _ => none

/-- R134: the channel belongs to the scope, with the zones in force. -/
def inScope (c : Channel) : Scope → Bool
  | .all => true
  | .zoneA => c.zone == .a
  | .zoneB => c.zone == .b

/-- R135: the fade step of a channel for a scene's fade time. -/
def fadeStep (fade target present : Nat) : Nat :=
  if fade = 0 then 255 else max 1 (ceilDiv (max target present - min target present) (fade * 10))

/-- A recall of a scene over a scope (R134, R135). -/
def recallScene (c : SceneSettings) (scope : Scope) (l : Light) : Light :=
  { l with channels := vtab fun i =>
      let x := l.channels[i]
      if inScope x scope then
        { x with target := c.levels[i], step := fadeStep c.fade c.levels[i] x.present }
      else x }

/-- SCENE (R134). -/
def sceneRequest (n scope : Nat) (s : State) : Status × State :=
  if h : n < 8 then
    match scopeOf scope with
    | none => (.range, s)
    | some sc => (.done, lightDemand (s.withLight (recallScene s.settings.scenes[n] sc s.light)))
  else (.range, s)

/-! ### LEVELS -/

/-- A channel's target is set with the fade step 255 (R139, R141); there is no channel above 11. -/
def setTarget (i level : Nat) (l : Light) : Light :=
  if h : i < 12 then
    { l with channels := l.channels.set i { l.channels[i] with target := level, step := 255 } }
  else l

/-- R139, R140: the pointer after a write. -/
def Window.next (w : Window) : Nat := if w.pointer = w.last then w.first else w.pointer + 1

/-- R140: a complete row becomes the port's pending commit, replacing one the port held, behind the others. -/
def commitRow (p : PortId) (w : Window) (row : List Nat) (l : Light) : Light :=
  { l with commits := l.commits.filter (fun c => c.port != p) ++ [{ port := p, first := w.first, levels := row }] }

/-- One level of a LEVELS written at the port's write pointer (R139, R140). -/
def writeLevel (p : PortId) (level : Nat) (l : Light) : Light :=
  match (l.ports.get p).window with
  | none => l
  | some w =>
    let setWindow (w1 : Window) (m : Light) : Light :=
      { m with ports := m.ports.set p { m.ports.get p with window := some w1 } }
    if w.staged then
      let row := w.row ++ [level]
      if w.pointer = w.last then
        setWindow { w with pointer := w.next, row := [] } (commitRow p w row l)
      else setWindow { w with pointer := w.next, row := row } l
    else setWindow { w with pointer := w.next } (setTarget w.pointer level l)

/-- R138: the port's window and mode become those named, where they differ, and its staged levels are discarded. -/
def openWindow (p : PortId) (first last : Nat) (staged : Bool) (l : Light) : Light :=
  let x := l.ports.get p
  let fresh : Window := { first := first, last := last, staged := staged, pointer := first, row := [] }
  match x.window with
  | none => { l with ports := l.ports.set p { x with window := some fresh } }
  | some w =>
    if w.first = first ∧ w.last = last ∧ w.staged = staged then l
    else
      let count := min Config.portCounterStop (x.discarded + w.row.length)
      { l with ports := l.ports.set p { window := some fresh, discarded := count } }

/-- The levels of a list are written one after another (R139, R140); a DIRECT one becomes a target at once, and the sleep
conditions are judged at it (R187). -/
def writeLevels (p : PortId) : List Nat → State → State
  | [], s => s
  | v :: rest, s => writeLevels p rest (judgeSleep (s.withLight (writeLevel p v s.light)))

/-- LEVELS (R138). DESIGN CHOICE (log entry 37): one with both faults is refused RANGE, not LENGTH. -/
def levelsRequest (p : PortId) (first last mode : Nat) (list : List Nat) (s : State) : Status × State :=
  if last < first ∨ 11 < last ∨ 1 < mode then (.range, s)
  else if list.length = 0 ∨ Config.maxLevels < list.length then (.length, s)
  else
    (.done, lightDemand (writeLevels p list (s.withLight (openWindow p first last (mode == 1) s.light))))

/-- R142: a port reset's part of the lighting engine; the discarded levels count stays. -/
def lightPortReset (p : PortId) (s : State) : State :=
  let l := s.light
  s.withLight { l with
    ports := l.ports.set p { l.ports.get p with window := none }
    commits := l.commits.filter (fun c => c.port != p) }

/-! ### The frame boundary -/

/-- R137: a channel moves toward its target by its fade step. -/
def Channel.move (c : Channel) : Channel :=
  if c.present < c.target then { c with present := min c.target (c.present + c.step) }
  else { c with present := max c.target (c.present - c.step) }

/-- R136 stage 1. -/
def Light.moveAll (l : Light) : Light := { l with channels := vtab fun i => l.channels[i].move }

/-- R136 stage 2, its first part: the settings written since the previous boundary (R131, R132, R143). -/
def Light.applySettings (l : Light) (t : LightSettings) : Light :=
  { l with
    channels := vtab fun i => { l.channels[i] with zone := t.bounds.zoneOf i.val }
    rated := t.rated
    night := t.night }

/-- The levels of a list set as targets of the channels from `first` on (R141). -/
def applyLevels (first : Nat) : List Nat → Light → Light
  | [], l => l
  | v :: rest, l => applyLevels (first + 1) rest (setTarget first v l)

/-- Commits are applied one after another (R141), the sleep conditions judged at each (R187). -/
def applyEach : List Commit → State → State
  | [], s => s
  | c :: rest, s => applyEach rest (judgeSleep (s.withLight (applyLevels c.first c.levels s.light)))

/-- R136 stage 2, its second part: the pending commits in the order their rows became complete (R141). -/
def applyCommits (s : State) : State :=
  applyEach s.light.commits (s.withLight { s.light with commits := [] })

/-- R136 stage 2, its last part: the grant handed is put in force (R144). -/
def Light.putInForce (l : Light) : Light := { l with forceFloor := l.handedFloor, forceElastic := l.handedElastic }

/-- R145: the duty of a level under the night level, the elastic part last asked for and the elastic grant in force. -/
def dutyOf (present night elastic grant : Nat) : Nat :=
  let d := present * present
  let fl := min present night * min present night
  if elastic = 0 then d else if elastic ≤ grant then d else fl + (d - fl) * grant / elastic

/-- R136 stage 3: the duties (R145), all 0 in LVD (R146). -/
def Light.drive (l : Light) (lvd : Bool) : Light :=
  { l with
    channels := vtab fun i =>
      { l.channels[i] with
        duty := if lvd then 0 else dutyOf l.channels[i].present l.night l.askedElastic l.forceElastic }
    dark := lvd
    frameTimer := 0 }

/-- R136's stages 1 and 2 up to the demand's request; the handing of its grants follows. -/
def frameBegin (s : State) : State :=
  lightDemand (applyCommits (s.withLight (s.light.moveAll.applySettings s.settings.light)))

/-- R136's end of stage 2 and stage 3. -/
def frameEnd (s : State) : State := s.withLight (s.light.putInForce.drive s.adm.lvd)

/-- R147: the lighting engine at a RESTART, its settings reloaded, before its request. -/
def Light.restart (l : Light) (t : LightSettings) : Light :=
  { (l.applySettings t) with
    askedFloor := 0, askedElastic := 0, handedFloor := 0, handedElastic := 0, forceFloor := 0, forceElastic := 0
    ports := { panel := .reset, remote := .reset, vehicle := .reset }
    commits := []
    frameTimer := 0 }

end Sys2Proof.Machine
end

