-- ==== Sys2Proof/Machine/Drive.lean ====
section
/-! DEFINITION. Drive state and charge paths (chapter 2): the DRIVE report and the derived drive state, the crank limit and
staleness, the three charge paths, charge inhibit and the filtered source current. -/

namespace Sys2Proof.Machine

/-! ### The charge paths -/

/-- R33: the SHORE path's enable and disable cause. -/
def judgeShore (d : DriveSide) : Source :=
  { d.shoreSource with
    enabled := d.shore && !d.inhibit
    cause := if d.inhibit then .inhibit else if d.shore then .none else .noShore }

/-- R33: the ALTERNATOR path's enable and disable cause. -/
def judgeAlt (d : DriveSide) : Source :=
  let moving := d.state == .ready || d.state == .moving
  { d.altSource with
    enabled := d.engine && moving && !d.inhibit
    cause := if d.inhibit then .inhibit else if !d.engine then .engineOff else if moving then .none else .driveState }

/-- R33: the SOLAR path's enable and disable cause. -/
def judgeSolar (d : DriveSide) : Source :=
  { d.solarSource with enabled := !d.inhibit, cause := if d.inhibit then .inhibit else .none }

/-- R33: the three enables are judged again. -/
def DriveSide.judge (d : DriveSide) : DriveSide :=
  { d with shoreSource := judgeShore d, altSource := judgeAlt d, solarSource := judgeSolar d }

/-! ### The drive state -/

/-- R30: the drive state takes a value: the crank timer stands at 0 (R27), the enables are judged again (R33), and a
change is handed to its readers, of which the motion sequencer acts at once. -/
def setDriveState (new : DriveState) (s : State) : State :=
  let old := s.drive.state
  if new = old then s.withDrive s.drive.judge
  else
    let d := { s.drive with state := new, crankTimer := 0 }
    motionDriveChange old new (s.withDrive d.judge)

/-- R26: the drive state of the stored report fields and the crank latch. -/
def derive (d : DriveSide) : DriveState :=
  if !d.ignition then .parked
  else if d.cranking && !d.crankLatch then .cranking
  else if 0 < d.speed || !d.handbrake then .moving
  else .ready

/-- R25, R27: the report's fields are stored; a cranking NO clears the latch and the crank cause. -/
def DriveSide.store (d : DriveSide) (ign eng crk hb : Bool) (speed : Nat) : DriveSide :=
  { d with
    ignition := ign, engine := eng, cranking := crk, handbrake := hb, speed := min 250 speed
    reported := true, age := 0
    crankLatch := d.crankLatch && crk
    crankLong := d.crankLong && crk }

/-- DRIVE (R25): a field out of its two values is refused RANGE and is no report; a report that leaves the drive state as it
was is a quiet report (R190), one that changes it a wake cause (R30). -/
def driveReport (ign eng crk hb speed : Nat) (s : State) : Status × State :=
  if 1 < ign ∨ 1 < eng ∨ 1 < crk ∨ 1 < hb then (.range, clearQuietMark s)
  else
    let d := s.drive.store (ign == 1) (eng == 1) (crk == 1) (hb == 1) speed
    let new := derive d
    let s1 := setDriveState new (s.withDrive d)
    if new = s.drive.state then (.done, quietReport s1) else (.done, wakeCause s1)

/-- The crank timer has reached 15 s (R27), while CRANKING. -/
def crankReached (s : State) : State :=
  if s.drive.state = .cranking ∧ Config.crankLimit ≤ s.drive.crankTimer then
    setDriveState .ready (s.withDrive { s.drive with crankLong := true, crankLatch := true })
  else s

/-- The report age timer has reached 5 s (R28), while the drive state is other than UNKNOWN; a report taken first has
restarted the timer, and the expiry does not happen. -/
def staleReached (s : State) : State :=
  if s.drive.state = .unknown ∨ s.drive.age < Config.stalenessLimit then s else setDriveState .unknown s

/-- A switch change of the shore-present line (R32), a wake cause. -/
def shoreChange (active : Bool) (s : State) : State :=
  wakeCause (s.withDrive ({ s.drive with shore := active } : DriveSide).judge)

/-! ### Cold charge inhibit -/

/-- Charge inhibit is set or cleared: CHARGE_INHIBIT is raised and the enables judged again where it changes; a change of
cause while it stays set raises nothing (R34). -/
def setInhibit (on : Bool) (c : InhibitCause) (s : State) : State :=
  let s1 := s.withDrive ({ s.drive with inhibit := on, inhibitCause := c } : DriveSide).judge
  if on = s.drive.inhibit then s1 else raise .chargeInhibit .drive 0 s1

/-- R34 for an LFP battery at a sample. -/
def judgeInhibit (p : Nat) (r : Reading) (s : State) : State :=
  match r.value with
  | some temp =>
    let s1 := s.withDrive { s.drive with inhibitAbsence := 0 }
    if temp < 0 then setInhibit true .cold s1
    else if 20 ≤ temp then setInhibit false .none s1
    else s1
  | none =>
    let t := if Config.minute < s.drive.inhibitAbsence then s.drive.inhibitAbsence else s.drive.inhibitAbsence + p
    let s1 := s.withDrive { s.drive with inhibitAbsence := t }
    if Config.minute < t then setInhibit true .noSensor s1 else s1

/-- The inhibit's part of a sample event (R34, R35): a change of chemistry is taken first. -/
def inhibitSample (p : Nat) (r : Reading) (s : State) : State :=
  let chem := s.settings.battery.chem
  let s1 :=
    if chem = s.drive.chem then s
    else
      let s0 := s.withDrive { s.drive with chem := chem, inhibitAbsence := 0 }
      match chem with
      | .lead => setInhibit false .none s0
      | .lfp => s0.withDrive { s0.drive with inhibit := false, inhibitCause := .none }
  match chem with
  | .lead => s1
  | .lfp => judgeInhibit p r s1

/-- The inhibit absence time passes 60 s (R34), for LFP with T_BATTERY ABSENT at the latest sample. -/
def inhibitReached (s : State) : State :=
  if s.drive.chem = .lfp && s.account.validT == .absent then
    let t := if Config.minute < s.drive.inhibitAbsence then s.drive.inhibitAbsence else Config.minute + s.period
    setInhibit true .noSensor (s.withDrive { s.drive with inhibitAbsence := t })
  else s

/-! ### Source currents -/

/-- A SOURCE record takes its channel (R36). -/
def Source.take (x : Source) (r : Reading) : Source :=
  { x with current := r.value.getD x.current, validity := r.validity }

/-- What a source channel adds to the sum: its VALID value, else 0 (R36). -/
def sourceTerm (r : Reading) : Nat := (r.validValue.getD 0).toNat

/-- R37: F moves by the truncated eighth of its difference from Isrc. -/
def filtered (f isrc : Nat) : Nat := ((f : Int) + Int.tdiv ((isrc : Int) - (f : Int)) 8).toNat

/-- R36, R37 and the outside temperature (R38). -/
def DriveSide.sample (d : DriveSide) (x : Sample) : DriveSide :=
  let isrc := sourceTerm (readShore x) + sourceTerm (readAlt x) + sourceTerm (readSolar x)
  { d with
    shoreSource := d.shoreSource.take (readShore x)
    altSource := d.altSource.take (readAlt x)
    solarSource := d.solarSource.take (readSolar x)
    isrc := isrc
    f := filtered d.f isrc
    outside := (readTOutside x).value }

/-- The block takes a sample event (R34 to R37). -/
def driveSample (x : Sample) (s : State) : State :=
  let s1 := inhibitSample s.period (readTBattery x) s
  s1.withDrive (s1.drive.sample x)

/-- R31, R36, R37: the drive side after power-on and RESTART over what each keeps. -/
def DriveSide.restart (d : DriveSide) : DriveSide :=
  ({ d with
    state := .unknown, ignition := false, engine := false, cranking := false, handbrake := false, speed := 0
    reported := false, age := 0, crankTimer := 0, crankLong := false, crankLatch := false, isrc := 0, f := 0 } :
    DriveSide).judge

end Sys2Proof.Machine
end

