-- ==== Sys2Proof/Machine/Routine.lean ====
section
/-! DEFINITION. The routine runner (chapter 8): CALL, WITHDRAW and CANCEL, the presentation of steps to their owners, the
ends of routines, and the step codes of section 10.6; and the handing of what an event leaves to be handed (R47, R130,
R154). -/

namespace Sys2Proof.Machine

/-! ### Steps -/

/-- The built-in routines (section 8.1). -/
def builtIn : Nat → List RStep
  | 0 => [.move .step .stow, .move .awning .stow, .scene 0 .all, .pump false]
  | 1 => [.requireParked, .move .step .deploy, .scene 1 .all]
  | 2 => [.pump false, .openDrain, .wait 600, .heat false none]
  | _ => []

/-- A routine's step list (R150). -/
def routineSteps (t : Settings) (n : Fin 8) : List RStep :=
  if h : 3 ≤ n.val then t.routines[n.val - 3] else builtIn n.val

/-- The code of a scope (section 10.6). -/
def Scope.code : Scope → Nat
  | .all => 0
  | .zoneA => 1
  | .zoneB => 2

/-- The code of a direction (section 10.6). -/
def Direction.code : Direction → Nat
  | .deploy => 0
  | .stow => 1

/-- 1 for true. -/
def bitOf (b : Bool) : Nat := if b then 1 else 0

/-- The two-byte code of a step: kind x 8192 + argument (section 10.6). -/
def stepCode : RStep → Nat
  | .move a d => actuatorIndex a * 2 + d.code
  | .scene n sc => 8192 + n * 3 + sc.code
  | .load e on => 2 * 8192 + e * 2 + bitOf on
  | .pump on => 3 * 8192 + bitOf on
  | .heat c t => 4 * 8192 + bitOf c * 512 + (match t with
    | none => 511
    | some x => x.toNat)
  | .openDrain => 5 * 8192
  | .wait n => 6 * 8192 + n
  | .requireParked => 7 * 8192

/-- The step of a two-byte code, a HEAT step's setpoint clamped (R150, section 10.6); none where the kind or the argument is
none of the section's. -/
def stepOf (code : Nat) : Option RStep :=
  let arg := code % 8192
  match code / 8192 with
  | 0 => match actuatorOf (arg / 2), directionOf (arg % 2) with
    | some a, some d => some (.move a d)
    | _, _ => none
  | 1 => match scopeOf (arg % 3) with
    | some sc => if arg / 3 < 8 then some (.scene (arg / 3) sc) else none
    | none => none
  | 2 => if 7 ≤ arg / 2 ∧ arg / 2 ≤ 19 then some (.load (arg / 2) (arg % 2 == 1)) else none
  | 3 => if arg ≤ 1 then some (.pump (arg == 1)) else none
  | 4 =>
    if arg / 512 ≤ 1 then
      some (.heat (arg / 512 == 1) (if arg % 512 = 511 then none else some (clampInt 50 300 (arg % 512 : Nat))))
    else none
  | 5 => if arg = 0 then some .openDrain else none
  | 6 => if 1 ≤ arg ∧ arg ≤ 600 then some (.wait arg) else none
  | 7 => if arg = 0 then some .requireParked else none
  | _ => none

/-! ### Starting and ending -/

/-- A routine starts at step 1 (R154). -/
def startRun (c : Call) (s : State) : State :=
  s.withRunner { s.runner with run := some { call := c, step := 1, phase := .presenting, timer := 0 }, due := true }

/-- R157's last act: the pending call, if any, starts. -/
def startPending (s : State) : State :=
  match s.runner.pendingCall with
  | none => s
  | some c => startRun c (s.withRunner { s.runner with pendingCall := none })

/-- The end of a routine (R157): its last end fields, ROUTINE_END, idle, and the pending call. -/
def endRun (k : EndKind) (why : EndReason) (s : State) : State :=
  match s.runner.run with
  | none => s
  | some r =>
    let e : LastEnd := { kind := k, step := r.step, reason := why, caller := some r.call.caller }
    let s1 := s.withRunner { s.runner with
      lastEnds := s.runner.lastEnds.set r.call.routine e, run := none, due := false }
    startPending (raise .routineEnd .routine r.call.routine.val s1)

/-- The step in flight is complete: the next is to be presented in the same event, or the routine ends DONE (R154). -/
def completeStep (s : State) : State :=
  match s.runner.run with
  | none => s
  | some r =>
    if r.step < (routineSteps s.settings r.call.routine).length then
      s.withRunner { s.runner with
        run := some { r with step := r.step + 1, phase := .presenting, timer := 0 }, due := true }
    else endRun .done .none s

/-- The step in flight waits on its motion or on its timer (R155, R156). -/
def waitStep (ph : RunPhase) (s : State) : State :=
  match s.runner.run with
  | none => s
  | some r => s.withRunner { s.runner with run := some { r with phase := ph, timer := 0 } }

/-- The owner's answer to a presented step decides what follows (R154). -/
def stepAnswered (ph : RunPhase) (r : Status × State) : State :=
  match r.1 with
  | .done => completeStep r.2
  | .accepted => waitStep ph r.2
  | st => endRun .aborted (.refusal st) r.2

/-- A step is presented to its owning block as a request of the caller's port, or judged by the runner itself (R154,
R156). -/
def presentStep (caller : PortId) (k : RStep) (s : State) : State :=
  match k with
  | .move a d => stepAnswered (.onMotion a) (moveTaken a d (caller == .remote) .routine s)
  | .scene n sc => stepAnswered .onTimer (sceneRequest n sc.code s)
  | .load e on => stepAnswered .onTimer (loadSet e (bitOf on) s)
  | .pump on => stepAnswered .onTimer (pumpSwitch (bitOf on) s)
  | .heat c t => stepAnswered .onTimer (heatRequest (bitOf c) (t.getD s.settings.setpoint) s)
  | .openDrain => stepAnswered .onTimer (openDrainRequest s)
  | .wait _ => waitStep .onTimer s
  | .requireParked =>
    if s.drive.state = .parked then completeStep s else endRun .aborted (.refusal .interlock) s

/-- The runner presents the step that is due (R154). -/
def presentDue (s : State) : State :=
  let s1 := s.withRunner { s.runner with due := false }
  match s.runner.run with
  | none => s1
  | some r =>
    match (routineSteps s.settings r.call.routine)[r.step - 1]? with
    | none => endRun .done .none s1
    | some k => presentStep r.call.caller k s1

/-- The runner takes the end of its motion (R155). -/
def motionEnded (res : MotionResult) (s : State) : State :=
  match s.runner.run with
  | none => s
  | some r =>
    match r.phase with
    | .onMotion _ => if res = .done then completeStep s else endRun .aborted (.motion res) s
    | _ => s

/-! ### What an event hands on -/

/-- A change of grant is handed to its entry's owner (R47). The frost hold and the general outputs follow their entry's
state (R49, R105) and need no act. -/
def handGrant (g : GrantChange) (s : State) : State :=
  match g.entry.val with
  | 1 => motorGrant g.cause s
  | 2 => fanGrant g.cause s
  | 3 => glowGrant g.cause s
  | 4 => pumpGrant g.cause s
  | 5 => lightGrant g s
  | _ => s

/-- What an event has left to be handed is handed on, in order (R47): the changes of grant as the controller made them,
then a motion's end to the runner (R130), then the presentation of the runner's due step (R154), each before the
next of its kind is made (log entry 6). The sleep conditions are judged after each (R187, log entry 22). -/
def handOn : Nat → State → State
  | 0, s => s
  | n + 1, s =>
    match s.adm.changes with
    | g :: rest => handOn n (judgeSleep (handGrant g (s.withAdm { s.adm with changes := rest })))
    | [] =>
      match s.runner.handed with
      | some r => handOn n (judgeSleep (motionEnded r (s.withRunner { s.runner with handed := none })))
      | none => if s.runner.due then handOn n (judgeSleep (presentDue s)) else s

/-- An act is settled: the sleep conditions are judged as it has left them (R187), and everything it leaves to be handed is
handed on. -/
def settle (s : State) : State := handOn Config.handFuel (judgeSleep s)

/-! ### CALL, WITHDRAW, CANCEL -/

/-- CALL (R152). -/
def callRequest (p : PortId) (n : Nat) (s : State) : Status × State :=
  if h : n < 8 then
    let r : Fin 8 := ⟨n, h⟩
    if (routineSteps s.settings r).isEmpty then (.range, s)
    else
      let c : Call := { routine := r, caller := p }
      match s.runner.run, s.runner.pendingCall with
      | none, _ => (.accepted, startRun c s)
      | some _, none => (.accepted, s.withRunner { s.runner with pendingCall := some c })
      | some _, some _ => (.busy, s)
  else (.range, s)

/-- WITHDRAW (R153). -/
def withdrawRequest (p : PortId) (s : State) : Status × State :=
  match s.runner.pendingCall with
  | none => (.role, s)
  | some c => if c.caller = p then (.done, s.withRunner { s.runner with pendingCall := none }) else (.role, s)

/-- R158: the step in flight is aborted; the STOPPED its stop hands back belongs to the cancel. -/
def abortStep (ph : RunPhase) (s : State) : State :=
  match ph with
  | .onMotion a =>
    let s1 := stopRecord a .stopped s
    s1.withRunner { s1.runner with handed := none }
  | _ => s

/-- CANCEL (R158). -/
def cancelRequest (p : PortId) (s : State) : Status × State :=
  match s.runner.run with
  | none => (.done, s)
  | some r =>
    if p = r.call.caller ∨ p = .panel then (.done, endRun .cancelled .request (abortStep r.phase s))
    else (.role, s)

/-- R159: a port reset empties the pending slot of that port's call. -/
def runnerPortReset (p : PortId) (s : State) : State :=
  match s.runner.pendingCall with
  | none => s
  | some c => if c.caller = p then s.withRunner { s.runner with pendingCall := none } else s

/-- The argument of the WAIT step that waits on the step timer, in ms (R156). -/
def waitLimit (t : Settings) (r : Run) : Option Nat :=
  match r.phase, (routineSteps t r.call.routine)[r.step - 1]? with
  | .onTimer, some (.wait n) => some (n * 1000)
  | _, _ => none

/-- The step timer has reached the WAIT's argument (R156); it does not run while CRANKING. A CANCEL taken first leaves no step
that the expiry completes (R158). -/
def waitReached (s : State) : State :=
  match s.runner.run with
  | none => s
  | some r =>
    match waitLimit s.settings r with
    | none => s
    | some n => if s.drive.state = .cranking ∨ r.timer < n then s else completeStep s

/-- R151: the runner at a RESTART, before its notice: a running routine ends CANCELLED with reason RESTART, a pending call is
discarded. -/
def runnerRestart (s : State) : State :=
  endRun .cancelled .restart (s.withRunner { s.runner with pendingCall := none, handed := none, due := false })

end Sys2Proof.Machine
end

