-- ==== Sys2Proof/Machine/Records.lean ====
section
/-! DEFINITION. The record directory's reading side (sections 10.1, 10.2, 10.6): the fourteen classes, the images of their
records field by field, each field's form, and READ. -/

namespace Sys2Proof.Machine

/-! ### Classes -/

/-- The class of a code (section 10.1). -/
def classOf : Nat → Option RecClass
  | 1 => some .port
  | 2 => some .account
  | 3 => some .source
  | 4 => some .drive
  | 5 => some .load
  | 6 => some .budget
  | 7 => some .tank
  | 8 => some .water
  | 9 => some .heater
  | 10 => some .motion
  | 11 => some .channel
  | 12 => some .scene
  | 13 => some .routine
  | 14 => some .battery
  | _ => none

/-- How many records a class has (section 10.1). -/
def RecClass.size : RecClass → Nat
  | .port => 3
  | .account => 1
  | .source => 3
  | .drive => 1
  | .load => 20
  | .budget => 1
  | .tank => 3
  | .water => 1
  | .heater => 1
  | .motion => 2
  | .channel => 12
  | .scene => 8
  | .routine => 8
  | .battery => 1

/-- The port of a PORT record's index, which is also the code of its role (R175, R185). -/
def portIndex : PortId → Nat
  | .panel => 0
  | .remote => 1
  | .vehicle => 2

def portOf : Nat → PortId
  | 0 => .panel
  | 1 => .remote
  | _ => .vehicle

/-- The tank of a TANK record's index. -/
def tankOf : Nat → TankId
  | 0 => .fresh
  | 1 => .grey
  | _ => .black

/-! ### Field values as bytes (R178) -/

/-- An absent one-byte field. -/
def absent1 : List Byte := [0xFF]

/-- An absent unsigned field of two bytes, and one of three. -/
def absent2 : List Byte := [0xFF, 0xFF]
def absent3 : List Byte := [0xFF, 0xFF, 0xFF]

/-- A one-byte field. -/
def one (n : Nat) : List Byte := [byte n]

/-- A two-valued field coded in the order NO, YES or its like. -/
def flag (b : Bool) : List Byte := one (bitOf b)

/-- A line or an output whose table lists ACTIVE or ON first. -/
def flagOn (b : Bool) : List Byte := one (bitOf (!b))

/-- A time kept in ms and shown in 0.1 s, in two bytes and in one. DESIGN CHOICE (log entry 33): rounded down, where the spec
says only 'in 0.1 s' (R38). -/
def tenths (ms : Nat) : List Byte := be16 (ms / 100)
def tenths1 (ms : Nat) : List Byte := one (ms / 100)

/-- An optional one-byte field, an optional temperature. -/
def optOne : Option Nat → List Byte
  | none => absent1
  | some n => one n

def optTemp : Option Int → List Byte
  | none => [0x80, 0x00]
  | some t => beInt t

/-- A list: its count byte and its entries. -/
def listField {α : Type} (f : α → List Byte) (xs : List α) : List Byte := byte xs.length :: (xs.map f).flatten

/-- The place of an entry in the waiting queue, 1 at the head. -/
def queuePlace (e : Fin 20) : List (Fin 20) → Nat → Option Nat
  | [], _ => none
  | x :: rest, k => if x = e then some k else queuePlace e rest (k + 1)

/-- The owner codes of the load table (section 10.6). -/
def ownerCode (e : Nat) : Nat :=
  match e with
  | 0 => 0
  | 1 => 2
  | 2 => 1
  | 3 => 1
  | 4 => 0
  | 5 => 3
  | 6 => 0
  | _ => 4

/-- The status codes (R185). -/
def Status.code : Status → Nat
  | .done => 0x00
  | .accepted => 0x01
  | .notAttached => 0x10
  | .role => 0x11
  | .unknown => 0x12
  | .length => 0x13
  | .range => 0x14
  | .busy => 0x15
  | .interlock => 0x16
  | .locked => 0x17
  | .readOnly => 0x18
  | .frost => 0x19

/-- The last end reason's code, in the order of R160's list; a status or result that no routine ends by has none there
and shows NONE. -/
def EndReason.code : EndReason → Nat
  | .none => 0
  | .refusal .role => 1
  | .refusal .interlock => 2
  | .refusal .locked => 3
  | .refusal .frost => 4
  | .refusal _ => 0
  | .motion .noBudget => 5
  | .motion .stopped => 6
  | .motion .shed => 7
  | .motion .lvd => 8
  | .motion .travelTime => 9
  | .motion .stall => 10
  | .motion .switchConflict => 11
  | .motion .interlock => 2
  | .motion _ => 0
  | .request => 12
  | .restart => 13

/-! ### Images, one list of fields for each class -/

/-- PORT (R175). Restart in flight belongs to PORT 0 alone: the others show it absent. -/
def portFields (p : PortId) (s : State) : List (List Byte) :=
  let x := s.ports.get p
  [ one (portIndex p), flag x.attached, optOne x.level, halfBytes x.subscription,
    one (match x.asm with
      | .hunting => 0
      | .sync1 => 1
      | .inFrame _ _ => 2),
    (match x.slotA with
      | none => [0]
      | some a => [a.frame.kind]),
    (match x.slotB with
      | none => [0]
      | some f => [f.kind]),
    flag x.answer.isSome,
    (if p = .panel then flag s.restarting else absent1),
    listField (fun n => one n.kind.code) x.queue,
    flag x.mark, be16 x.badFrames, be16 x.resyncs, be16 x.overruns, be16 x.breaks,
    be16 (s.light.ports.get p).discarded ]

/-- ACCOUNT (section 10.6). -/
def accountFields (a : Account) : List (List Byte) :=
  [ be32 a.q, be32 a.ct, one a.band, be16 a.k, be16 a.soc, be16 a.socEff, flag a.calibrated, flag a.estimated,
    be16 (a.restTimer / 1000), one (a.syncTimer / 1000), flag a.syncLatched, one (a.tempAbsence / 1000),
    beInt a.lastI, beInt a.lastV, beInt a.lastT, one a.validI.ctorIdx, one a.validV.ctorIdx, one a.validT.ctorIdx ]

/-- The SOURCE record of an index (R38). -/
def sourceOf (d : DriveSide) : Nat → Source
  | 0 => d.shoreSource
  | 1 => d.altSource
  | _ => d.solarSource

/-- SOURCE (R38). -/
def sourceFields (x : Source) : List (List Byte) :=
  [ flagOn x.enabled, one x.cause.ctorIdx, beInt x.current, one x.validity.ctorIdx ]

/-- DRIVE (R38). -/
def driveFields (d : DriveSide) : List (List Byte) :=
  [ one d.state.ctorIdx, flag d.ignition, flag d.engine, flag d.cranking, flag d.handbrake, one d.speed,
    flag d.reported, tenths (if d.reported then min Config.reportAgeStop d.age else 0), tenths d.crankTimer,
    flag d.crankLong, flagOn d.shore, flag d.inhibit, one d.inhibitCause.ctorIdx, be16 d.isrc, be16 d.f,
    optTemp d.outside ]

/-- LOAD (section 10.6). -/
def loadFields (e : Fin 20) (s : State) : List (List Byte) :=
  let x := s.adm.entries[e]
  let light := e == lightEntry
  let place := queuePlace e s.adm.queue 1
  [ one e.val, one (ownerCode e.val), one x.cls.ctorIdx, be16 x.rating, optOne (s.settings.rank e),
    one x.state.ctorIdx,
    (if x.state = .granted ∨ (light ∧ 0 < x.grant) then be16 (x.grant + if light then s.adm.floorGrant else 0)
      else absent2),
    (if place.isSome then one x.pass else absent1),
    optOne place,
    (if light then be16 s.adm.floorGrant else absent2),
    (if light then be16 s.adm.elasticWanted else absent2) ]

/-- BUDGET (R67). -/
def budgetFields (s : State) : List (List Byte) :=
  let a := s.adm
  let entry (e : Fin 20) : List Byte := one e.val
  [ be16 a.budget, one a.band.ctorIdx, be16 a.factor, be16 a.socUsed, be16 a.fUsed, be16 a.sumS, be16 a.sumD,
    flag a.lvd, tenths a.entryTimer, tenths a.exitTimer, listField entry a.queue, listField entry a.granted,
    listField entry a.resume, be16 s.settings.bmax, be16 s.settings.bcap ]

/-- A tank's volume (R86): V_est for FRESH, M[step] for the others, absent while the step is UNKNOWN. -/
def tankVolume (t : TankId) (s : State) : Option Nat :=
  match (s.tanks.get t).step with
  | none => none
  | some c => if t = .fresh then s.water.vEst else some ((s.settings.tank t).mark c)

/-- TANK (section 10.6). -/
def tankFields (t : TankId) (s : State) : List (List Byte) :=
  let x := s.tanks.get t
  let m := s.settings.tank t
  [ one m.count, listField be24 m.marks, optOne x.step, optOne x.last, listField (fun b => flag b) x.readings,
    flag x.gap, flag x.full,
    (match tankVolume t s with
      | none => absent3
      | some v => be24 v) ]

/-- WATER (R86); the pad output is on while entry 6 is GRANTED (R84). -/
def waterFields (s : State) : List (List Byte) :=
  let w := s.water
  [ one w.pump.ctorIdx, one w.lock.ctorIdx, flagOn w.demand, flag w.requested, flagOn (w.pump == .running),
    tenths w.dryTimer, one s.settings.pulseVolume, be32 w.pulses, be32 w.drawn, flag w.asking,
    flagOn (w.asking && s.adm.isGranted padEntry), flag s.frost.drainOpen, one s.frost.reason.ctorIdx ]

/-- The cabin sensor field (R101): NONE, HELD, LOST. -/
def cabinSensor (h : Heater) : Nat := if h.cabin.isNone then 2 else if 0 < h.cabinAbsence then 1 else 0

/-- HEATER (section 10.6). -/
def heaterFields (s : State) : List (List Byte) :=
  let h := s.heater
  [ one h.mode.ctorIdx, beInt s.settings.setpoint, one h.state.ctorIdx, tenths h.phase, one h.reason.ctorIdx,
    one h.attempts, optOne (h.demand.map (·.ctorIdx)), tenths1 h.flameTimer, one h.lockout.ctorIdx, optTemp h.cabin,
    one (cabinSensor h), flag s.settings.frostGuard, optTemp s.frost.water, one s.frost.source.ctorIdx,
    flag s.frost.keep ]

/-- MOTION (section 10.6). -/
def motionFields (a : Actuator) (s : State) : List (List Byte) :=
  let r := s.motionRec a
  let m := s.settings.motion a
  [ one r.position.ctorIdx, one r.activity.ctorIdx, optOne (r.direction.map (·.code)),
    optOne (r.requester.map (·.ctorIdx)), one (s.motion.role a).ctorIdx, flag r.stowedSw, flag r.deployedSw,
    tenths r.travel, be16 m.travelLimit, be16 m.stallThreshold, tenths r.stallTimer, tenths r.grantWait,
    tenths1 r.reversal, one r.fault.ctorIdx, one r.result.ctorIdx, one r.mark.ctorIdx ]

/-- CHANNEL's six fields (section 7.1). -/
def channelFields (i : Fin 12) (s : State) : List (List Byte) :=
  let c := s.light.channels[i]
  [ be16 s.settings.light.rated[i], one c.present, one c.target, one c.step, be16 c.duty, one c.zone.ctorIdx ]

/-- CHANNEL 0's lighting-wide fields (R149). -/
def lightingFields (s : State) : List (List Byte) :=
  let l := s.light
  let z := s.settings.light.bounds
  [ one z.aFirst, one z.aLast, one z.bFirst, one z.bLast, be16 s.settings.light.night,
    be16 (l.askedFloor + l.askedElastic), be16 l.askedFloor, be16 l.askedElastic,
    be16 l.handedFloor, be16 l.handedElastic, be16 l.forceFloor, be16 l.forceElastic, flag l.dark ]

/-- SCENE (R133). -/
def sceneFields (c : SceneSettings) : List (List Byte) := (c.levels.toList.map one) ++ [be16 c.fade]

/-- ROUTINE (R160). -/
def routineFields (n : Fin 8) (s : State) : List (List Byte) :=
  let steps := routineSteps s.settings n
  let run := s.runner.run.filter (fun r => r.call.routine == n)
  let wait := match run with
    | none => none
    | some r => some (r.call.caller, r.step, r.timer)
  let pend := s.runner.pendingCall.filter (fun c => c.routine == n)
  let e := s.runner.lastEnds[n]
  let ended := e.kind != .none
  [ flag (decide (3 ≤ n.val)), one steps.length, listField (fun k => be16 (stepCode k)) steps,
    flag wait.isSome, optOne (wait.map fun w => portIndex w.1), optOne (wait.map fun w => w.2.1),
    (match wait with
      | none => [0, 0]
      | some w => tenths w.2.2),
    flag pend.isSome, optOne (pend.map fun c => portIndex c.caller),
    one e.kind.ctorIdx, (if ended then one e.step else absent1), one e.reason.code,
    (match e.caller with
      | none => absent1
      | some p => if ended then one (portIndex p) else absent1) ]

/-- BATTERY (R176). -/
def batteryFields (b : BatterySettings) : List (List Byte) :=
  [ one b.chem.ctorIdx, be16 b.cnom, (b.ocv.map be16).flatten, be16 b.eta, be16 b.fullV, be16 b.restTime,
    be16 b.weight, be16 b.comfort, be16 b.reserve, be16 b.vLvd ]

/-- A table row by number, the last row beyond the table. -/
def finOf (n i : Nat) (h : 0 < n) : Fin n := if k : i < n then ⟨i, k⟩ else ⟨n - 1, by omega⟩

/-- The fields of a record, in field order (R176). -/
def recordFields (c : RecClass) (i : Nat) (s : State) : List (List Byte) :=
  match c with
  | .port => portFields (portOf i) s
  | .account => accountFields s.account
  | .source => sourceFields (sourceOf s.drive i)
  | .drive => driveFields s.drive
  | .load => loadFields (finOf 20 i (by decide)) s
  | .budget => budgetFields s
  | .tank => tankFields (tankOf i) s
  | .water => waterFields s
  | .heater => heaterFields s
  | .motion => motionFields (if i = 0 then .awning else .step) s
  | .channel => channelFields (finOf 12 i (by decide)) s ++ (if i = 0 then lightingFields s else [])
  | .scene => sceneFields s.settings.scenes[finOf 8 i (by decide)]
  | .routine => routineFields (finOf 8 i (by decide)) s
  | .battery => batteryFields s.settings.battery

/-- A record's image: its fields one after another (R178). -/
def image (c : RecClass) (i : Nat) (s : State) : List Byte := (recordFields c i s).flatten

/-! ### Field forms -/

/-- A field's width: a fixed number of bytes, or a list whose entries have one. -/
inductive Width where
  | fixed (n : Nat)
  | list (entry : Nat)
  deriving DecidableEq, Repr

/-- A field's form: its width, and whether a WRITE may carry it. -/
structure FieldForm where
  width : Width
  writable : Bool
  deriving DecidableEq, Repr

/-- A read-only and a writable field of a fixed width. -/
def ro (n : Nat) : FieldForm := { width := .fixed n, writable := false }
def rw_ (n : Nat) : FieldForm := { width := .fixed n, writable := true }

/-- A list field. -/
def listForm (entry : Nat) (writable : Bool) : FieldForm := { width := .list entry, writable := writable }

/-- The forms of a record's fields, in field order: the widths of its image (R178), and the fields of section 10.4. -/
def fieldForms (c : RecClass) (i : Nat) : List FieldForm :=
  match c with
  | .port =>
    [ro 1, ro 1, ro 1, ro 2, ro 1, ro 1, ro 1, ro 1, ro 1, listForm 1 false, ro 1, ro 2, ro 2, ro 2, ro 2, ro 2]
  | .account =>
    [ro 4, ro 4, ro 1, ro 2, ro 2, ro 2, ro 1, ro 1, ro 2, ro 1, ro 1, ro 1, ro 2, ro 2, ro 2, ro 1, ro 1, ro 1]
  | .source => [ro 1, ro 1, ro 2, ro 1]
  | .drive => [ro 1, ro 1, ro 1, ro 1, ro 1, ro 1, ro 1, ro 2, ro 2, ro 1, ro 1, ro 1, ro 1, ro 2, ro 2, ro 2]
  | .load =>
    let general := decide (7 ≤ i)
    let ranked := general || i == 1 || i == 3 || i == 5
    [ro 1, ro 1, { ro 1 with writable := general }, { ro 2 with writable := general },
      { ro 1 with writable := ranked }, ro 1, ro 2, ro 1, ro 1, ro 2, ro 2]
  | .budget =>
    [ro 2, ro 1, ro 2, ro 2, ro 2, ro 2, ro 2, ro 1, ro 2, ro 2, listForm 1 false, listForm 1 false,
      listForm 1 false, rw_ 2, rw_ 2]
  | .tank => [rw_ 1, listForm 3 true, ro 1, ro 1, listForm 1 false, ro 1, ro 1, ro 3]
  | .water => [ro 1, ro 1, ro 1, ro 1, ro 1, ro 2, rw_ 1, ro 4, ro 4, ro 1, ro 1, ro 1, ro 1]
  | .heater => [ro 1, rw_ 2, ro 1, ro 2, ro 1, ro 1, ro 1, ro 1, ro 1, ro 2, ro 1, rw_ 1, ro 2, ro 1, ro 1]
  | .motion =>
    [ro 1, ro 1, ro 1, ro 1, ro 1, ro 1, ro 1, ro 2, rw_ 2, rw_ 2, ro 2, ro 2, ro 1, ro 1, ro 1, ro 1]
  | .channel =>
    [rw_ 2, ro 1, ro 1, ro 1, ro 2, ro 1]
      ++ (if i = 0 then [rw_ 1, rw_ 1, rw_ 1, rw_ 1, rw_ 2, ro 2, ro 2, ro 2, ro 2, ro 2, ro 2, ro 2, ro 1] else [])
  | .scene => List.replicate 12 (rw_ 1) ++ [rw_ 2]
  | .routine =>
    [ro 1, ro 1, listForm 2 (decide (3 ≤ i)), ro 1, ro 1, ro 1, ro 2, ro 1, ro 1, ro 1, ro 1, ro 1, ro 1]
  | .battery => [rw_ 1, rw_ 2, rw_ 22, rw_ 2, rw_ 2, rw_ 2, rw_ 2, rw_ 2, rw_ 2, rw_ 2]

/-! ### READ -/

/-- The images of `n` records from an index on, wrapping at the class's end, stopping before the images would pass 46
bytes; `room` is what is left of the 46 (R177). -/
def readImages (c : RecClass) (s : State) : Nat → Nat → Nat → List (List Byte)
  | 0, _, _ => []
  | n + 1, i, room =>
    let x := image c i s
    if room < x.length then []
    else x :: readImages c s n (if i + 1 = c.size then 0 else i + 1) (room - x.length)

/-- READ (R177): refused RANGE, or DONE with the record count and the images. -/
def readRequest (cls first count : Nat) (s : State) : Status × List Byte :=
  match classOf cls with
  | none => (.range, [])
  | some c =>
    if c.size ≤ first ∨ count = 0 ∨ 4 < count then (.range, [])
    else
      let xs := readImages c s count first Config.maxImages
      (.done, byte xs.length :: xs.flatten)

end Sys2Proof.Machine
end

