-- ==== Sys2Proof/Machine/Write.lean ====
section
/-! DEFINITION. WRITE (sections 10.3 and 10.4): the directory's checks, the owners' checks and their taking of the values;
and the settings store with its sum check (R181). -/

namespace Sys2Proof.Machine

/-! ### The directory's checks -/

/-- A bit of the field mask is set (R176). -/
def masked (mask : Half) (k : Nat) : Bool := mask.getLsbD k

/-- Every field the mask names exists (R179); a mask names fields 0 to 15. -/
def maskExists (mask : Half) (fields : Nat) : Bool :=
  (List.range 16).all fun k => !masked mask k || decide (k < fields)

/-- How many bytes a field's value takes at the front of the bytes given: a list is counted by its own count byte. -/
def valueWidth (w : Width) (bytes : List Byte) : Option Nat :=
  match w with
  | .fixed n => some n
  | .list entry => match bytes with
    | [] => none
    | c :: _ => some (1 + c.toNat * entry)

/-- The bytes of a WRITE dealt out to the masked fields from field `k` on, in field order; none where they do not fit
exactly (R179). -/
def dealValues (mask : Half) : Nat → List FieldForm → List Byte → Option (List (Option (List Byte)))
  | _, [], bytes => if bytes.isEmpty then some [] else none
  | k, f :: rest, bytes =>
    if k < 16 && masked mask k then
      match valueWidth f.width bytes with
      | none => none
      | some n =>
        if bytes.length < n then none
        else (dealValues mask (k + 1) rest (bytes.drop n)).map (some (bytes.take n) :: ·)
    else (dealValues mask (k + 1) rest bytes).map (none :: ·)

/-- A masked field is read-only. -/
def masksReadOnly (mask : Half) (forms : List FieldForm) : Bool :=
  (forms.zipIdx).any fun f => f.2 < 16 && masked mask f.2 && !f.1.writable

/-! ### Values -/

/-- The values a WRITE supplies, one place for each field of the record. -/
abbrev Values := List (Option (List Byte))

/-- The unsigned number supplied for field `k`, or the present one. -/
def numAt (v : Values) (k present : Nat) : Nat :=
  match v.getD k none with
  | none => present
  | some bs => numOf bs

/-- The fixed table of `w`-byte numbers in a run of bytes. -/
def tableOf (w : Nat) : Nat → List Byte → List Nat
  | 0, _ => []
  | n + 1, bs => numOf (bs.take w) :: tableOf w n (bs.drop w)

/-- The entries of a list field's value. -/
def entriesOf (w : Nat) (bs : List Byte) : List Nat :=
  match bs with
  | [] => []
  | c :: rest => tableOf w c.toNat rest

/-- An enumeration's code names one of its `n` values. -/
def codeWithin (v : Values) (k n : Nat) : Bool := decide (numAt v k 0 < n)

/-! ### The owners -/

/-- The per-chemistry fields supplied over a record (R6). -/
def batteryOver (v : Values) (b : BatterySettings) : BatterySettings :=
  { b with
    cnom := numAt v 1 b.cnom
    ocv := (match v.getD 2 none with
      | none => b.ocv
      | some bs => tableOf 2 11 bs)
    eta := numAt v 3 b.eta
    fullV := numAt v 4 b.fullV
    restTime := numAt v 5 b.restTime
    weight := numAt v 6 b.weight
    comfort := numAt v 7 b.comfort
    reserve := numAt v 8 b.reserve
    vLvd := numAt v 9 b.vLvd }

/-- The chemistry a WRITE to BATTERY 0 leaves. -/
def chemAfter (v : Values) (b : BatterySettings) : Chemistry :=
  match v.getD 0 none with
  | none => b.chem
  | some bs => if numOf bs = 0 then .lead else .lfp

/-- WRITE to BATTERY 0 (R6, R53): a change of chemistry first loads the defaults into the fields not supplied. -/
def writeBattery (v : Values) (s : State) : Status × State :=
  let b := s.settings.battery
  let chem := chemAfter v b
  let base := if chem = b.chem then b else .defaults chem b.cnom
  let new := batteryOver v base
  if codeWithin v 0 2 && new.valid then (.done, s.withSettings { s.settings with battery := new }) else (.range, s)

/-- WRITE to BUDGET 0 (R53, R67). -/
def writeBudget (v : Values) (s : State) : Status × State :=
  let bmax := numAt v 13 s.settings.bmax
  let bcap := numAt v 14 s.settings.bcap
  if inRange 0 7000 bmax && inRange 1000 10000 bcap then
    (.done, s.withSettings { s.settings with bmax := bmax, bcap := bcap })
  else (.range, s)

/-- The load class of a code. -/
def loadClassOf : Nat → LoadClass
  | 0 => .prot
  | 1 => .essential
  | 2 => .comfort
  | _ => .deferrable

/-- The settings of a general entry as a WRITE leaves them. -/
def generalOver (v : Values) (g : GeneralSettings) : GeneralSettings :=
  { cls := (match v.getD 2 none with
      | none => g.cls
      | some bs => loadClassOf (numOf bs))
    rating := numAt v 3 g.rating
    rank := numAt v 4 g.rank }

/-- The LOAD settings as a WRITE to entry `i` leaves them. -/
def loadsOver (v : Values) (i : Nat) (l : LoadSettings) : LoadSettings :=
  if h : 7 ≤ i ∧ i - 7 < 13 then
    { l with general := l.general.set (i - 7) (generalOver v l.general[i - 7]) }
  else match i with
    | 1 => { l with rank1 := numAt v 4 l.rank1 }
    | 3 => { l with rank3 := numAt v 4 l.rank3 }
    | 5 => { l with rank5 := numAt v 4 l.rank5 }
    | _ => l

/-- WRITE to a LOAD record (R39, R40, R180): RANGE before BUSY. A class or rating written while the entry is not OFF is BUSY,
its present value too (log entry 16); one taken while the entry is OFF is shown by its record and is in force at the next
request. -/
def writeLoad (i : Nat) (v : Values) (s : State) : Status × State :=
  let e := finOf 20 i (by decide)
  let new := { s.settings with loads := loadsOver v i s.settings.loads }
  if !(codeWithin v 2 4 && new.loads.valid) then (.range, s)
  else
    let x := s.adm.entries[e]
    let written := (v.getD 2 none).isSome || (v.getD 3 none).isSome
    if written && x.state != .off then (.busy, s)
    else
      let s1 := s.withSettings new
      if written then
        (.done, s1.withAdm (s1.adm.setEntry e { x with cls := new.restClass e, rating := new.restRating e }))
      else (.done, s1)

/-- A tank's settings replaced. -/
def Settings.setTank (x : Settings) (t : TankId) (m : TankSettings) : Settings :=
  match t with
  | .fresh => { x with fresh := m }
  | .grey => { x with grey := m }
  | .black => { x with black := m }

/-- What a change of a tank's settings does to its reading (R68). DESIGN CHOICE (log entry 34): the electrode readings stay as
the last scan left them, at their old count, until the next scan (R68, R176). -/
def tankRewritten (t : TankId) (s : State) : State :=
  let k := s.tanks.get t
  let s1 := s.setTank t { k with
    step := none, last := none, gap := false, full := false
    settle := if k.settle = .settling then .void else k.settle }
  if t = .fresh then s1.withWater { s1.water with vEst := none } else s1

/-- WRITE to a TANK record (R68). -/
def writeTank (t : TankId) (v : Values) (s : State) : Status × State :=
  let m := s.settings.tank t
  let new : TankSettings :=
    { count := numAt v 0 m.count
      marks := (match v.getD 1 none with
        | none => m.marks
        | some bs => entriesOf 3 bs) }
  if !new.valid then (.range, s)
  else if new = m then (.done, s)
  else (.done, tankRewritten t (s.withSettings (s.settings.setTank t new)))

/-- WRITE to WATER 0 (R75). -/
def writeWater (v : Values) (s : State) : Status × State :=
  let n := numAt v 6 s.settings.pulseVolume
  if inRange 1 50 n then (.done, s.withSettings { s.settings with pulseVolume := n }) else (.range, s)

/-- WRITE to HEATER 0 (R89, R109): the setpoint clamped, and the frost guard setting. -/
def writeHeater (v : Values) (s : State) : Status × State :=
  if !codeWithin v 11 2 then (.range, s)
  else
    let s1 := match v.getD 1 none with
      | none => s
      | some bs => takeSetpoint (intOf bs) s
    match v.getD 11 none with
    | none => (.done, s1)
    | some bs => (.done, setFrostGuard (numOf bs == 1) s1)

/-- WRITE to a MOTION record (R121, R129): the travel limit clamped, the stall threshold judged. -/
def writeMotion (a : Actuator) (v : Values) (s : State) : Status × State :=
  let m := s.settings.motion a
  let new : MotionSettings :=
    { travelLimit := clampNat 10 600 (numAt v 8 m.travelLimit), stallThreshold := numAt v 9 m.stallThreshold }
  if new.valid then
    (.done, s.withSettings (match a with
      | .awning => { s.settings with awning := new }
      | .step => { s.settings with step := new }))
  else (.range, s)

/-- WRITE to a CHANNEL record (R131, R132, R143): in force from the next frame boundary. -/
def writeChannel (i : Nat) (v : Values) (s : State) : Status × State :=
  let l := s.settings.light
  let c := finOf 12 i (by decide)
  let z := l.bounds
  let new : LightSettings :=
    { rated := l.rated.set c (numAt v 0 l.rated[c])
      bounds := { aFirst := numAt v 6 z.aFirst, aLast := numAt v 7 z.aLast
                  bFirst := numAt v 8 z.bFirst, bLast := numAt v 9 z.bLast }
      night := clampNat 0 255 (numAt v 10 l.night) }
  if new.valid then (.done, s.withSettings { s.settings with light := new }) else (.range, s)

/-- WRITE to a SCENE record (R133): the fade time clamped. -/
def writeScene (i : Nat) (v : Values) (s : State) : Status × State :=
  let n := finOf 8 i (by decide)
  let c := s.settings.scenes[n]
  let new : SceneSettings :=
    { levels := vtab fun k => numAt v k.val c.levels[k], fade := clampNat 0 255 (numAt v 12 c.fade) }
  if new.valid then (.done, s.withSettings { s.settings with scenes := s.settings.scenes.set n new }) else (.range, s)

/-- The steps of a list of codes; none where a code is no step's (R150). -/
def stepsOf : List Nat → Option (List RStep)
  | [] => some []
  | c :: rest => match stepOf c, stepsOf rest with
    | some k, some ks => some (k :: ks)
    | _, _ => none

/-- The routine runs or stands in the pending slot (R150). -/
def routineBusy (n : Fin 8) (r : Runner) : Bool :=
  (match r.run with
    | none => false
    | some x => x.call.routine == n)
    || (match r.pendingCall with
      | none => false
      | some c => c.routine == n)

/-- WRITE to ROUTINE 3 to 7 (R150): RANGE before BUSY. -/
def writeRoutine (i : Nat) (v : Values) (s : State) : Status × State :=
  match v.getD 2 none with
  | none => (.done, s)
  | some bs =>
    match stepsOf (entriesOf 2 bs) with
    | none => (.range, s)
    | some steps =>
      let n := finOf 8 i (by decide)
      if !routineValid steps then (.range, s)
      else if routineBusy n s.runner then (.busy, s)
      else (.done, s.withSettings { s.settings with
        routines := s.settings.routines.set (finOf 5 (n.val - 3) (by decide)) steps })

/-- The owner takes the values of a WRITE that has passed the directory's checks (R179). The classes without a writable
field never come so far with a field masked. -/
def ownerWrite (c : RecClass) (i : Nat) (v : Values) (s : State) : Status × State :=
  match c with
  | .port => (.done, s)
  | .account => (.done, s)
  | .source => (.done, s)
  | .drive => (.done, s)
  | .load => writeLoad i v s
  | .budget => writeBudget v s
  | .tank => writeTank (tankOf i) v s
  | .water => writeWater v s
  | .heater => writeHeater v s
  | .motion => writeMotion (if i = 0 then .awning else .step) v s
  | .channel => writeChannel i v s
  | .scene => writeScene i v s
  | .routine => writeRoutine i v s
  | .battery => writeBattery v s

/-- R179's checks on a record, in order, then its owner's. -/
def writeRecord (c : RecClass) (i : Nat) (mask : Half) (bytes : List Byte) (s : State) : Status × State :=
  let forms := fieldForms c i
  if c.size ≤ i || !maskExists mask forms.length then (.range, s)
  else match dealValues mask 0 forms bytes with
    | none => (.length, s)
    | some v =>
      if masksReadOnly mask forms then (.readOnly, s)
      else if mask = 0 then (.done, s)
      else if s.saving.isSome then (.busy, s)
      else ownerWrite c i v s

/-- WRITE (R179), from its body: class code, index, field mask, values. -/
def writeRequest (body : List Byte) (s : State) : Status × State :=
  match body with
  | cls :: i :: hi :: lo :: bytes =>
    match classOf cls.toNat with
    | none => (.range, s)
    | some c => writeRecord c i.toNat (BitVec.ofNat 16 (hi.toNat * 256 + lo.toNat)) bytes s
  | _ => (.length, s)

/-! ### The settings store -/

/-- The image of all the working settings in the store: the fields of section 10.4 in the order of its list, each as its
record's image carries it (R181; the order is the model's, log entry 20). -/
def Settings.storeImage (t : Settings) : List Byte :=
  (batteryFields t.battery).flatten ++ be16 t.bmax ++ be16 t.bcap
    ++ one t.loads.rank1 ++ one t.loads.rank3 ++ one t.loads.rank5
    ++ (t.loads.general.toList.map fun g => one g.cls.ctorIdx ++ be16 g.rating ++ one g.rank).flatten
    ++ ([t.fresh, t.grey, t.black].map fun m => one m.count ++ listField be24 m.marks).flatten
    ++ one t.pulseVolume ++ beInt t.setpoint ++ flag t.frostGuard
    ++ ([t.awning, t.step].map fun m => be16 m.travelLimit ++ be16 m.stallThreshold).flatten
    ++ (t.light.rated.toList.map be16).flatten
    ++ one t.light.bounds.aFirst ++ one t.light.bounds.aLast ++ one t.light.bounds.bFirst ++ one t.light.bounds.bLast
    ++ be16 t.light.night
    ++ (t.scenes.toList.map fun c => (sceneFields c).flatten).flatten
    ++ (t.routines.toList.map fun r => listField (fun k => be16 (stepCode k)) r).flatten

/-- R181's check over an image: the sum of its bytes plus 0x5A5A, modulo 65536. -/
def storeCheck (t : Settings) : Half := BitVec.ofNat 16 ((t.storeImage.map (·.toNat)).sum + 0x5A5A)

/-- A load of the store is good (R181). -/
def Store.good (x : Store) : Bool := x.check == storeCheck x.image && x.image.valid

/-- The store that a completed save leaves (R184). -/
def Store.ofSettings (t : Settings) : Store := { image := t, check := storeCheck t }

/-- The store that a save cut off by loss of supply leaves: it fails its check (R182, R184). DESIGN CHOICE (log entry 21):
the snapshot under a check that is not its own. -/
def Store.cutOff (t : Settings) : Store := { image := t, check := ~~~ storeCheck t }

/-- A load of the store (R181): the working settings and whether they are the defaults. -/
def Store.load (x : Store) : Settings × Bool := if x.good then (x.image, false) else (.defaults, true)

end Sys2Proof.Machine
end

