-- ==== Sys2Proof/Machine/Links.lean ====
section
/-! DEFINITION. The master links (chapter 9): characters and frames, the mailbox, the request kinds with their roles and
lengths, their delivery to the owners, answers, the port reset and the transmitter. -/

namespace Sys2Proof.Machine

/-! ### Request kinds (section 10.6) -/

/-- The request kinds. -/
inductive ReqKind where
  | attach | detach | read | write | save | restart | drive | loadSet | pump | closeDrain | openDrain | heat
  | clearLockout | move | stopMotion | clearFault | scene | levels | call | withdraw | cancel
  deriving DecidableEq, Repr

/-- A request kind's code. -/
def ReqKind.code : ReqKind → Nat
  | .attach => 0x01
  | .detach => 0x02
  | .read => 0x03
  | .write => 0x04
  | .save => 0x05
  | .restart => 0x06
  | .drive => 0x10
  | .loadSet => 0x20
  | .pump => 0x21
  | .closeDrain => 0x22
  | .openDrain => 0x23
  | .heat => 0x30
  | .clearLockout => 0x31
  | .move => 0x40
  | .stopMotion => 0x41
  | .clearFault => 0x42
  | .scene => 0x50
  | .levels => 0x51
  | .call => 0x60
  | .withdraw => 0x61
  | .cancel => 0x62

/-- Every request kind. -/
def allKinds : List ReqKind :=
  [.attach, .detach, .read, .write, .save, .restart, .drive, .loadSet, .pump, .closeDrain, .openDrain, .heat,
    .clearLockout, .move, .stopMotion, .clearFault, .scene, .levels, .call, .withdraw, .cancel]

/-- The request kind of a KIND byte, if it is one. -/
def kindOf (k : Byte) : Option ReqKind := allKinds.find? fun r => r.code == k.toNat

/-- The LEN fits the kind's body layout (R168, section 10.6). -/
def ReqKind.lenFits (k : ReqKind) (n : Nat) : Bool :=
  match k with
  | .attach => n == 3
  | .detach => n == 0
  | .read => n == 3
  | .write => decide (4 ≤ n)
  | .save => n == 0
  | .restart => n == 0
  | .drive => n == 6
  | .loadSet => n == 2
  | .pump => n == 1
  | .closeDrain => n == 0
  | .openDrain => n == 0
  | .heat => n == 3
  | .clearLockout => n == 0
  | .move => n == 2
  | .stopMotion => n == 1
  | .clearFault => n == 1
  | .scene => n == 2
  | .levels => decide (3 ≤ n)
  | .call => n == 1
  | .withdraw => n == 0
  | .cancel => n == 0

/-- The role table (R168). -/
def admits (p : PortId) (k : ReqKind) : Bool :=
  match p with
  | .panel => k != .drive
  | .remote => k != .drive && k != .restart && k != .clearFault
  | .vehicle => k == .attach || k == .detach || k == .read || k == .drive || k == .stopMotion

/-! ### Answers -/

/-- The answer to a request (R169). -/
def answerTo (f : Frame) (st : Status) (rest : List Byte) : TxFrame :=
  { kind := f.kind + 0x80, tag := f.tag, body := byte st.code :: rest, restart := false }

/-- The frame of a notice (R172). -/
def noticeFrame (n : Notice) : TxFrame :=
  { kind := 0x7E, tag := 0, body := [byte n.kind.code, byte n.cls.code, byte n.index], restart := false }

/-- An answer enters the port's answer place. -/
def putAnswer (p : PortId) (x : TxFrame) (s : State) : State := s.setPort p { s.ports.get p with answer := some x }

/-- The request in slot A is answered: the answer enters the answer place, the request leaves slot A, and slot B moves up
(R168). -/
def finishSlot (p : PortId) (x : TxFrame) (s : State) : State :=
  let t := s.ports.get p
  s.setPort p { t with
    answer := some x, slotA := t.slotB.map fun f => { frame := f, delivered := false }, slotB := none }

/-! ### The port reset (R171) -/

/-- A port after a port reset; `keep` keeps slot A for the DETACH or ATTACH being served. -/
def Port.detached (x : Port) (keep : Bool) : Port :=
  { x with
    attached := false, level := none, subscription := 0, slotA := if keep then x.slotA else none, slotB := none
    answer := none, queue := [], mark := false }

/-- A port reset, handed to drive state, lighting and runner (R171, R29, R142, R159). -/
def portReset (p : PortId) (keep : Bool) (s : State) : State :=
  let s1 := s.setPort p ((s.ports.get p).detached keep)
  let s2 := if p = .vehicle then setDriveState .unknown s1 else s1
  runnerPortReset p (lightPortReset p s2)

/-! ### ATTACH, DETACH, RESTART: the port's own requests -/

/-- The DONE of an ATTACH after its status (R185). -/
def attachReply (p : PortId) (s : State) : List Byte :=
  one Config.familyHigh ++ one Config.familyLow ++ one Config.revision ++ one (portIndex p) ++ flag s.defaulted

/-- ATTACH (R170), from its body: protocol level and subscription mask. DESIGN CHOICE (log entry 39): what the port reset leaves
to be handed on is handed on once the port has attached again (`serveFrame`), so that its notices reach the port. -/
def attachRequest (p : PortId) (body : List Byte) (s : State) : Status × List Byte × State :=
  match body with
  | [level, hi, lo] =>
    if level.toNat ≠ 1 ∨ 0x40 ≤ hi.toNat then (.range, [], s)
    else
      let s1 := if (s.ports.get p).attached then portReset p true s else s
      let s2 := s1.setPort p { s1.ports.get p with
        attached := true, level := some 1, subscription := BitVec.ofNat 16 (hi.toNat * 256 + lo.toNat) }
      (.done, attachReply p s2, s2)
  | _ => (.length, [], s)

/-! ### Delivery to the owners (R168) -/

/-- What an owner makes of a request: its answer, or a request under way that is answered later (SAVE). -/
inductive Delivery where
  | answered (st : Status) (rest : List Byte) (s : State)
  | underWay (s : State)

/-- The state an owner leaves. -/
def Delivery.state : Delivery → State
  | .answered _ _ s => s
  | .underWay s => s

/-- An owner's answer without bytes after the status. -/
def plain (r : Status × State) : Delivery := .answered r.1 [] r.2

/-- SAVE (R184): refused BUSY during a save, else the snapshot is taken. -/
def saveRequest (s : State) : Delivery :=
  if s.saving.isSome then .answered .busy [] s
  else .underWay { s with saving := some { snapshot := s.settings, elapsed := 0 } }

/-- Byte `k` of a body as a number. -/
def at_ (body : List Byte) (k : Nat) : Nat := (body.getD k 0).toNat

/-- The requester of a port's MOVE (R115). -/
def requesterOf : PortId → Requester
  | .panel => .panel
  | .remote => .remote
  | .vehicle => .remote

/-- A request that has passed the port's checks is taken by its owner. -/
def deliver (p : PortId) (k : ReqKind) (body : List Byte) (s : State) : Delivery :=
  match k with
  | .attach =>
    let r := attachRequest p body s
    .answered r.1 r.2.1 r.2.2
  | .detach => .answered .done [] (portReset p true s)
  | .read =>
    let r := readRequest (at_ body 0) (at_ body 1) (at_ body 2) s
    .answered r.1 r.2 s
  | .write => plain (writeRequest body s)
  | .save => saveRequest s
  | .restart => .answered .done [] { s with restarting := true }
  | .drive =>
    plain (driveReport (at_ body 0) (at_ body 1) (at_ body 2) (at_ body 3) (numOf (body.drop 4)) s)
  | .loadSet => plain (loadSet (at_ body 0) (at_ body 1) s)
  | .pump => plain (pumpSwitch (at_ body 0) s)
  | .closeDrain => plain (closeDrainRequest s)
  | .openDrain => plain (openDrainRequest s)
  | .heat => plain (heatRequest (at_ body 0) (intOf (body.drop 1)) s)
  | .clearLockout => plain (clearLockout s)
  | .move => plain (moveRequest (at_ body 0) (at_ body 1) (p == .remote) (requesterOf p) s)
  | .stopMotion => plain (stopRequest (at_ body 0) s)
  | .clearFault => plain (clearFaultRequest (at_ body 0) s)
  | .scene => plain (sceneRequest (at_ body 0) (at_ body 1) s)
  | .levels =>
    plain (levelsRequest p (at_ body 0) (at_ body 1) (at_ body 2) ((body.drop 3).map (·.toNat)) s)
  | .call => plain (callRequest p (at_ body 0) s)
  | .withdraw => plain (withdrawRequest p s)
  | .cancel => plain (cancelRequest p s)

/-! ### Service -/

/-- R168's checks: the refusal of the first that fails, or the request kind. -/
def judgeRequest (p : PortId) (f : Frame) : Status × Option ReqKind :=
  match kindOf f.kind with
  | none => (.unknown, none)
  | some k =>
    if !admits p k then (.role, none) else if !k.lenFits f.body.length then (.length, none) else (.done, some k)

/-- A DRIVE of the VEHICLE port that is refused before its owner sees it, or lost, is no quiet report and clears the mark as it
is (R190, log entry 27). -/
def refusedDrive (p : PortId) (f : Frame) (s : State) : State :=
  if p = .vehicle ∧ f.kind.toNat = ReqKind.drive.code then clearQuietMark s else s

/-- The request in slot A is served (R168): judged, delivered, what it leaves handed on (R47), and answered. -/
def serveFrame (p : PortId) (f : Frame) (s : State) : State :=
  match judgeRequest p f with
  | (st, none) => finishSlot p (answerTo f st []) (refusedDrive p f s)
  | (_, some k) =>
    let t := s.ports.get p
    match deliver p k f.body (s.setPort p { t with slotA := some { frame := f, delivered := true } }) with
    | .answered st rest s1 =>
      finishSlot p { answerTo f st rest with restart := k == .restart } (settle s1)
    | .underWay s1 => settle s1

/-- The request in slot A that can be served now: not yet delivered, the answer place empty, and not PANEL with a
restart in flight (R168, R174). -/
def servable (p : PortId) (s : State) : Option Frame :=
  let x := s.ports.get p
  if x.answer.isSome || (p == .panel && s.restarting) then none
  else match x.slotA with
    | none => none
    | some a => if a.delivered then none else some a.frame

/-- The port serves its slot A if it can. -/
def serve (p : PortId) (s : State) : State :=
  match servable p s with
  | none => s
  | some f => serveFrame p f s

/-! ### The transmitter (R173) -/

/-- An answer as it begins transmission: a pending overrun mark sets the status byte's top bit (R169). -/
def TxFrame.marked (x : TxFrame) (mark : Bool) : TxFrame :=
  if mark then { x with body := (match x.body with
    | [] => []
    | st :: rest => (st ||| 0x80) :: rest) }
  else x

/-- A request of the port is in service, delivered and not yet answered (R173). -/
def Port.inService (x : Port) : Bool :=
  match x.slotA with
  | none => false
  | some a => a.delivered

/-- A free transmitter chooses its next frame (R173). -/
def Port.choose (x : Port) : Port :=
  match x.sending with
  | some _ => x
  | none =>
    match x.answer with
    | some a => { x with sending := some (a.marked x.mark), answer := none, mark := false }
    | none =>
      if x.inService then x
      else match x.queue with
        | [] => x
        | n :: rest => { x with sending := some (noticeFrame n), queue := rest }

/-- The port's transmitter chooses. -/
def transmit (p : PortId) (s : State) : State := s.setPort p (s.ports.get p).choose

/-- One round of the three ports: each serves its slot A, then each transmitter chooses. -/
def linkRound (s : State) : State :=
  let s1 := serve .vehicle (serve .remote (serve .panel s))
  transmit .vehicle (transmit .remote (transmit .panel s1))

/-- What an event leaves to the links: three rounds, since a port holds at most two requests and its transmitter takes one
answer. The transmitters choose once the event's notices stand in the queues (log entry 7). -/
def linkWork (s : State) : State := linkRound (linkRound (linkRound s))

/-! ### Frame arrival (R166) -/

/-- An overrun (R167). -/
def overrun (p : PortId) (s : State) : State :=
  let x := s.ports.get p
  s.setPort p { x with overruns := countTo Config.portCounterStop x.overruns, mark := true }

/-- A bad frame is counted (R164, R166). -/
def badFrame (p : PortId) (s : State) : State :=
  let x := s.ports.get p
  s.setPort p { x with badFrames := countTo Config.portCounterStop x.badFrames }

/-- A request on a DETACHED port with its answer place empty is answered at once (R166). -/
def answerDetached (p : PortId) (f : Frame) (s : State) : State :=
  if f.kind.toNat = ReqKind.attach.code then
    let r := attachRequest p f.body s
    putAnswer p (answerTo f r.1 r.2.1) r.2.2
  else putAnswer p (answerTo f .notAttached []) (refusedDrive p f s)

/-- A request frame is taken according to the attach state (R166). -/
def takeRequest (p : PortId) (f : Frame) (s : State) : State :=
  let x := s.ports.get p
  if !x.attached then
    (if x.answer.isSome then overrun p (refusedDrive p f s) else answerDetached p f s)
  else match x.slotA with
    | none => s.setPort p { x with slotA := some { frame := f, delivered := false } }
    | some _ => match x.slotB with
      | none => s.setPort p { x with slotB := some f }
      | some _ => overrun p (refusedDrive p f s)

/-- Each frame arrival is reported to the parked sleep block, a DRIVE on the VEHICLE port aside (R166, R187, R190). DESIGN CHOICE
(log entry 27): a DRIVE that is no quiet report clears the mark when it is served or lost, not here at its arrival. -/
def reportArrival (p : PortId) (f : Frame) (s : State) : State :=
  if p = .vehicle ∧ f.kind.toNat = ReqKind.drive.code then s else sleepFrame s

/-- A frame that has passed its check arrives (R166). The kind of a notice or of an answer is a bad frame. -/
def frameTaken (p : PortId) (f : Frame) (s : State) : State :=
  let s1 := reportArrival p f s
  if f.kind = 0x7E ∨ 0x80 ≤ f.kind.toNat then badFrame p s1 else takeRequest p f s1

/-- A frame arrives as one event: the receiver has returned to hunting, and its line is one that stands between
characters (R164). A body of more than 48 bytes is no frame's: it is discarded and counted as its LEN byte would be. -/
def frameArrives (p : PortId) (f : Frame) (s : State) : State :=
  let s1 := s.setPort p { s.ports.get p with asm := .hunting, line := .looking }
  if Config.maxBody < f.body.length then badFrame p s1 else frameTaken p f s1

/-! ### Characters (R162, R164, R165) -/

/-- The nine bits of data and parity hold an odd number of ones (R162). -/
def parityError (data : Byte) (parity : Bool) : Bool :=
  decide ((((List.range 8).filter fun k => data.getLsbD k).length + bitOf parity) % 2 = 1)

/-- A frame's check (section 9.3): the sum of the bytes from KIND through the last body byte, modulo 65536. -/
def frameCheck (bytes : List Byte) : Nat := (bytes.map (·.toNat)).sum % 65536

/-- The second CHECK byte has been taken: the frame is judged (R164). -/
def frameComplete (p : PortId) (bytes : List Byte) (s : State) : State :=
  let body := bytes.take (bytes.length - 2)
  if frameCheck body = numOf (bytes.drop (bytes.length - 2)) then
    match body with
    | k :: t :: _ :: rest => frameTaken p { kind := k, tag := t, body := rest } s
    | _ => s
  else badFrame p s

/-- The assembler of a port takes a state. -/
def setAsm (p : PortId) (a : Assembler) (s : State) : State := s.setPort p { s.ports.get p with asm := a }

/-- A resync (R165). -/
def resync (p : PortId) (s : State) : State :=
  let x := s.ports.get p
  s.setPort p { x with asm := .hunting, resyncs := countTo Config.portCounterStop x.resyncs }

/-- A byte without error is taken inside a frame at its place (R164, R165). -/
def frameByte (p : PortId) (bytes : List Byte) (zeros : Nat) (data : Byte) (s : State) : State :=
  let run := if data = 0 then zeros + 1 else 0
  let all := bytes ++ [data]
  if Config.resyncRun ≤ run then resync p s
  else if all.length = 3 ∧ Config.maxBody < data.toNat then badFrame p (setAsm p .hunting s)
  else if 3 ≤ all.length ∧ all.length = 5 + (all.getD 2 0).toNat then frameComplete p all (setAsm p .hunting s)
  else setAsm p (.inFrame all run) s

/-- The assembler takes a character (R164). -/
def assemble (p : PortId) (data : Byte) (error : Bool) (s : State) : State :=
  match (s.ports.get p).asm with
  | .hunting => if !error && data == 0xD3 then setAsm p .sync1 s else s
  | .sync1 =>
    if error then setAsm p .hunting s
    else if data = 0x5A then setAsm p (.inFrame [] 0) s
    else if data = 0xD3 then s
    else setAsm p .hunting s
  | .inFrame bytes zeros =>
    if error then badFrame p (setAsm p .hunting s) else frameByte p bytes zeros data s

/-- A character is complete (R162): after a framing error the receiver waits for the line to stand high. A receiver that
waits for the high line has no character to complete. -/
def characterTaken (p : PortId) (data : Byte) (parity stop : Bool) (s : State) : State :=
  let x := s.ports.get p
  match x.line with
  | .looking =>
    assemble p data (parityError data parity || !stop)
      (s.setPort p { x with line := if stop then .looking else .waitHigh })
  | .waitHigh => s
  | .broken => s

/-- A validated start bit (R162, R189). -/
def startBit (p : PortId) (s : State) : State :=
  match (s.ports.get p).line with
  | .looking => wakeStartBit s
  | .waitHigh => s
  | .broken => s

/-- The receive line stands high (R161 to R163). -/
def lineHigh (p : PortId) (s : State) : State := s.setPort p { s.ports.get p with line := .looking }

/-- The answer place holds the DONE of a RESTART (R174). -/
def Port.holdsRestart (x : Port) : Bool :=
  match x.answer with
  | some a => a.restart
  | none => false

/-- A break's own work (R163): counted, the port reset performed, the receiver waiting for the line to stand high; one
low period yields one break. -/
def breakTaken (p : PortId) (s : State) : State :=
  let x := s.ports.get p
  portReset p false
    (s.setPort p { x with breaks := countTo Config.portCounterStop x.breaks, line := .broken })

end Sys2Proof.Machine
end

