-- ==== Sys2Proof/Machine/Power.lean ====
section
/-! DEFINITION. Power-on, loss of supply, the moment a RESTART takes effect, and the completion of a save: what each block
takes at them (R4, R5, R31 to R37, R41, R69, R72, R77, R85, R101 to R105, R113, R147, R151, R161, R181 to R184). -/

namespace Sys2Proof.Machine

/-! ### Power-on -/

/-- The drive side at power-on (R31, R32, R35 to R38), before the enables are judged: LFP starts inhibited with cause COLD. DESIGN
CHOICE (log entry 40): its inhibit absence time starts at 0. -/
def driveAtPower (chem : Chemistry) (shore : Bool) : DriveSide :=
  let cold := chem == .lfp
  let off : Source := { enabled := false, cause := .none, current := 0, validity := .absent }
  { state := .unknown, ignition := false, engine := false, cranking := false, handbrake := false, speed := 0
    reported := false, age := 0, crankTimer := 0, crankLong := false, crankLatch := false, shore := shore
    inhibit := cold, inhibitCause := if cold then .cold else .none, inhibitAbsence := 0, chem := chem
    isrc := 0, f := 0, outside := none
    shoreSource := off, altSource := off, solarSource := off }

/-- A motion record at power-on with its switches as they stand (R113). -/
def recAtPower (stowed deployed : Bool) : MotionRec :=
  MotionRec.restart { MotionRec.reset with stowedSw := stowed, deployedSw := deployed } .none

/-- The machine at power-on before the drain's opening is handed to the water block (R77, R105), with a store, the lines
as they stand and the commands that wait. -/
def atPower (store : Store) (lines : Lines) (waiting : List Instr) : State :=
  let t := store.load.1
  { powered := true
    settings := t
    store := store
    defaulted := store.load.2
    saving := none
    slowPeriod := false
    account := .reset t.battery
    drive := (driveAtPower t.battery.chem lines.shore).judge
    adm := .reset t
    tanks := { fresh := .reset, grey := .reset, black := .reset }
    water :=
      { pump := .disabled, lock := .none, demand := lines.pressure, requested := false, dryTimer := 0
        pulses := 0, drawn := 0, vEst := none, asking := false }
    heater :=
      { mode := .off, state := .off, phase := 0, reason := .none, attempts := 0, demand := none
        flameRunning := false, flameTimer := 0, lockout := .none, cabin := none, cabinAbsence := 0 }
    frost := { water := none, source := .none, hold := 0, keep := false, drainOpen := true, reason := .power }
    motion :=
      { recs := { awning := recAtPower lines.awningStowed lines.awningDeployed
                  step := recAtPower lines.stepStowed lines.stepDeployed }
        holder := none, waiter := none, awayRef := .parked }
    light := .reset t.light
    runner := .reset
    ports := { panel := .reset, remote := .reset, vehicle := .reset }
    restarting := false
    sleep := { state := .awake, idle := 0, quietMark := false }
    pending := waiting }

/-- A SWITCH_CONFLICT found at a reset raises MOTION (R113). -/
def raiseConflicts (s : State) : State :=
  let tell (a : Actuator) (b : State) : State :=
    if (b.motionRec a).activity = .fault then raise .motion .motion (actuatorIndex a) b else b
  tell .step (tell .awning s)

/-- Power-on (R182): the store is loaded, every block takes its power-on values, and the drain's opening is handed to the
pump before any other event (R77, R105). -/
def powerOn (store : Store) (lines : Lines) (waiting : List Instr) : State :=
  raiseConflicts (raise .drain .water 0 (pumpDrainOpened (atPower store lines waiting)))

/-- Loss of supply: a save in flight leaves the store failing its check (R182, R184); everything else a part without
supply holds is lost at the next power-on. -/
def supplyLost (s : State) : State :=
  { s with
    powered := false
    saving := none
    store := (match s.saving with
      | none => s.store
      | some j => .cutOff j.snapshot) }

/-! ### RESTART -/

/-- R183: the settings at a RESTART: the store is loaded, or the snapshot of a save in flight is taken, with the flag left
to the save's completion. -/
def reload (s : State) : State :=
  match s.saving with
  | some j => s.withSettings j.snapshot
  | none => { s.withSettings s.store.load.1 with defaulted := s.store.load.2 }

/-- A tank at a RESTART: a new scan begins at once, the reading kept (R69, R72). -/
def TankRec.restart (k : TankRec) : TankRec :=
  { k with settle := .settling, settleTime := 0, scanTimer := 0, scanPeriod := Config.scanPeriodAwake }

/-- The water block's own fields at a RESTART (R74 to R77, R85). -/
def Water.restart (w : Water) : Water :=
  { w with pump := .disabled, lock := .none, requested := false, dryTimer := 0, asking := false }

/-- The heater at a RESTART (R102), before its request. -/
def Heater.restart (h : Heater) : Heater :=
  let base : Heater := { h with mode := .off, demand := none, flameRunning := false, flameTimer := 0 }
  match h.state with
  | .glow => { base with state := .purge, phase := 0, reason := .restart, attempts := 0 }
  | .ignite => { base with state := .purge, phase := 0, reason := .restart, attempts := 0 }
  | .run => { base with state := .purge, phase := 0, reason := .restart, attempts := 0 }
  | .purge => { base with attempts := 0 }
  | .waitGrant => { base with state := .off, phase := 0, attempts := 0 }
  | .standby => { base with state := .off, phase := 0, attempts := 0 }
  | .off => { base with attempts := 0 }
  | .lockout => base

/-- A motion record's restart with the result R113 gives it. -/
def MotionRec.atRestart (r : MotionRec) : MotionRec := r.restart (if r.inFlight then .stopped else r.result)

/-- The motion sequencer at a RESTART (R113, R127). -/
def Motion.restart (m : Motion) : Motion :=
  { recs := { awning := m.recs.awning.atRestart, step := m.recs.step.atRestart }
    holder := none, waiter := none, awayRef := .parked }

/-- The blocks' own values at a RESTART, with every entry OFF and every port reset, before the owners ask again (R41). -/
def blocksRestart (s : State) : State :=
  { s with
    slowPeriod := false
    account := s.account.restart
    drive := s.drive.restart
    adm := .reset s.settings
    tanks := { fresh := s.tanks.fresh.restart, grey := s.tanks.grey.restart, black := s.tanks.black.restart }
    water := s.water.restart
    heater := s.heater.restart
    frost := { s.frost with keep := false }
    motion := s.motion.restart
    light := s.light.restart s.settings.light
    ports := { panel := .reset, remote := .reset, vehicle := .reset }
    restarting := false
    sleep := { state := .awake, idle := 0, quietMark := false } }

/-- What each owner's reset leaves running is asked for again, or handed again (R41, R77, R102, R105, R147). -/
def askAgain (s : State) : State :=
  let s1 := if s.frost.drainOpen then pumpDrainOpened s else request holdEntry .prot 30 s
  let s2 := if s1.heater.state = .purge then request fanEntry .prot 180 s1 else s1
  lightDemand s2

/-- The RESTART takes effect (R174): the routine ends (R151), the settings are reloaded (R183), each block takes its values
and asks again. -/
def restartTaken (s : State) : State :=
  raiseConflicts (askAgain (blocksRestart (reload (runnerRestart s))))

/-- RESTART_EFFECT: it falls only while a RESTART is in flight (R174). -/
def restartEffect (s : State) : State := if s.restarting then restartTaken s else s

/-! ### The save -/

/-- The port whose SAVE stays delivered in slot A is answered DONE (R168, R184). -/
def answerSave (p : PortId) (s : State) : State :=
  match (s.ports.get p).slotA with
  | none => s
  | some a => if a.delivered then finishSlot p (answerTo a.frame .done []) s else s

/-- The save completes (R184): the store holds the snapshot with a good check, the flag is cleared, SAVE is answered where
its port still holds it. -/
def saveComplete (s : State) : State :=
  match s.saving with
  | none => s
  | some j =>
    let s1 : State := { s with store := .ofSettings j.snapshot, saving := none, defaulted := false }
    answerSave .vehicle (answerSave .remote (answerSave .panel s1))

/-! ### Breaks and frames sent, which may bring a RESTART's effect -/

/-- A break (R163); one that discards the DONE of a RESTART brings its effect (R174), after which the line is still in the
low period whose break has been taken. -/
def breakEffect (p : PortId) (s : State) : State :=
  if (s.ports.get p).holdsRestart then
    let s1 := restartEffect (breakTaken p s)
    s1.setPort p { s1.ports.get p with line := .broken }
  else breakTaken p s

/-- A receiver that has taken this low period's break takes no other (R163). DESIGN CHOICE (log entry 38): one that waits for the
high line takes a break, on a line low since power-on or RESTART too. DESIGN CHOICE (log entry 45): the assembler stays as it is. -/
def breakLine (p : PortId) (s : State) : State :=
  match (s.ports.get p).line with
  | .broken => s
  | .looking => breakEffect p s
  | .waitHigh => breakEffect p s

/-- The transmitter has sent its frame to the end (R173): it is free; the DONE of a RESTART brings its effect (R174). -/
def frameDone (p : PortId) (s : State) : State :=
  let x := s.ports.get p
  match x.sending with
  | none => s
  | some f =>
    let s1 := s.setPort p { x with sending := none }
    if f.restart then restartEffect s1 else s1

end Sys2Proof.Machine
end

