-- ==== Sys2Proof/Machine/Events.lean ====
section
/-! DEFINITION. How a command becomes one event of the part: what it leaves is handed on, the links do their work, and the
sleep conditions are judged; the sample event's blocks in their order; and the requests as the frames that carry
them. -/

namespace Sys2Proof.Machine

/-- An event is finished: its own act is settled, the sleep conditions judged and everything it leaves to be handed handed on
(R187, R47, R130, R154), the ports serve and transmit (R168, R173), and the sleep conditions are judged as the event leaves
them (R187). -/
def finish (s : State) : State := judgeSleep (linkWork (settle s))

/-- An event of a part that has supply; a part without supply takes none (log entry 9). -/
def event (f : State → State) (s : State) : Host.Outcome State Fault Refusal :=
  .next (if s.powered then finish (f s) else s)

/-- A master's request arrives on its port as a whole frame (log entry 1). -/
def requestEvent (p : PortId) (k : ReqKind) (tag : Byte) (body : List Byte) (s : State) :
    Host.Outcome State Fault Refusal :=
  event (frameArrives p { kind := byte k.code, tag := tag, body := body }) s

/-- A WRITE to a record of a class, as its frame's body carries it (section 10.3). -/
def writeBody (c : RecClass) (index : Byte) (mask : Half) (values : List Byte) : List Byte :=
  byte c.code :: index :: (halfBytes mask ++ values)

/-- A WRITE to a record of a class arrives on its port. -/
def writeEvent (c : RecClass) (p : PortId) (tag index : Byte) (mask : Half) (values : List Byte) (s : State) :
    Host.Outcome State Fault Refusal :=
  requestEvent p .write tag (writeBody c index mask values) s

/-- A sample whose BATT_I is VALID or SATURATED with a magnitude of 100 cA or more is a wake cause (R189). -/
def currentWakes (x : Sample) : Bool :=
  match (readBattI x).value with
  | some i => decide (Config.wakeCurrent ≤ i.natAbs)
  | none => false

/-- The length of the period that begins now is the one of the sleep state in force (R1, R3). -/
def nextPeriod (before : SleepState) (s : State) : State := { s with slowPeriod := before == .parkedSleep }

/-- A sample event (R1): the account, drive and charge paths, and the admission controller in turn (R23, R37, R50), whose
grants and sheds are handed on; then the heater, the frost guard and the motion sequencer; then the wake cause. The sleep
conditions are judged after each block that can change one (R187, log entry 22). The period that begins at the event has
the length of the sleep state the event found (R3, R189). The order of the blocks is the model's where the spec leaves it
open (log entry 10). -/
def sampleTaken (x : Sample) (s : State) : State :=
  let s1 := settle (budgetEvent x (driveSample x (accountSample x (surgeSample s))))
  let s2 := settle (frostSample x (judgeSleep (heaterSample x s1)))
  let s3 := motionSample s.motion x s2
  let s4 := if currentWakes x then wakeCause s3 else s3
  nextPeriod s.sleep.state s4

/-- A frame boundary (R136): none in PARKED_SLEEP (R148). What its demand is granted is handed before the grants are put in
force. -/
def boundaryTaken (s : State) : State :=
  if s.sleep.state = .parkedSleep then s else frameEnd (settle (frameBegin s))

end Sys2Proof.Machine
end

