-- ==== Sys2Proof/Machine/Commands.lean ====
section
/-! DEFINITION. The meanings of the commands, one definition for each row of the opcode table: an event of the part over the
blocks' operations. A request row is the arrival of that request's frame on its port (log entry 1); an expiry row acts
where its timer stands at its limit or, for those counted by samples, can be running (log entry 5). -/

namespace Sys2Proof.Machine

/-- What a command answers. -/
abbrev Out := Host.Outcome State Fault Refusal

/-! ### Supply, samples and the account -/

/-- POWER_ON (R182): the store is loaded and every block takes its power-on values. Supply arriving at a part that has it
is a loss of supply first (log entry 9). -/
def execPowerOn (lines : Lines) (s : State) : Out :=
  let s1 := if s.powered then supplyLost s else s
  .next (finish (powerOn s1.store lines s1.pending))

/-- SUPPLY_LOSS (R182, R184). -/
def execSupplyLoss (s : State) : Out := .next (if s.powered then supplyLost s else s)

/-- SAMPLE_EVENT (R1). -/
def execSampleEvent (x : Sample) (s : State) : Out := event (sampleTaken x) s

/-- REST_CORRECTION (R19). -/
def execRestCorrection (s : State) : Out := event restReached s

/-- FULL_CHARGE_SYNC (R20). -/
def execFullChargeSync (s : State) : Out := event syncReached s

/-- TEMPERATURE_ABSENCE_LIMIT (R14). -/
def execTemperatureAbsenceLimit (s : State) : Out := event tempAbsenceReached s

/-! ### Drive state, charge paths, disconnect -/

/-- INHIBIT_NO_SENSOR (R34). -/
def execInhibitNoSensor (s : State) : Out := event inhibitReached s

/-- DRIVE (R25). -/
def execDrive (p : PortId) (tag ignition engine cranking handbrake : Byte) (speed : Half) (s : State) : Out :=
  requestEvent p .drive tag (ignition :: engine :: cranking :: handbrake :: halfBytes speed) s

/-- CRANK_LONG (R27). -/
def execCrankLong (s : State) : Out := event crankReached s

/-- REPORT_STALENESS (R28). -/
def execReportStaleness (s : State) : Out := event staleReached s

/-- SHORE_PRESENT_CHANGE (R32). -/
def execShorePresentChange (active : Bool) (s : State) : Out := event (shoreChange active) s

/-- LVD_ENTRY (R64). -/
def execLvdEntry (s : State) : Out := event lvdEntryReached s

/-- LVD_EXIT (R66). -/
def execLvdExit (s : State) : Out := event lvdExitReached s

/-- LOAD_SET (R48). -/
def execLoadSet (p : PortId) (tag entry switch : Byte) (s : State) : Out :=
  requestEvent p .loadSet tag [entry, switch] s

/-! ### Water -/

/-- SCAN_START (R69). -/
def execScanStart (t : TankId) (s : State) : Out := event (scanStart t) s

/-- SCAN_COMPLETION (R70). -/
def execScanCompletion (t : TankId) (wet : Byte) (s : State) : Out := event (scanComplete t wet) s

/-- FLOW_PULSE (R75). -/
def execFlowPulse (s : State) : Out := event flowPulse s

/-- PRESSURE_SWITCH_CHANGE (R79). -/
def execPressureSwitchChange (active : Bool) (s : State) : Out := event (pressureChange active) s

/-- DRY_LOCK (R81). -/
def execDryLock (s : State) : Out := event dryReached s

/-- PUMP (R78). -/
def execPump (p : PortId) (tag switch : Byte) (s : State) : Out := requestEvent p .pump tag [switch] s

/-! ### Heater and frost guard -/

/-- HEAT (R88). -/
def execHeat (p : PortId) (tag mode : Byte) (setpoint : Half) (s : State) : Out :=
  requestEvent p .heat tag (mode :: halfBytes setpoint) s

/-- GLOW_END (R92). -/
def execGlowEnd (s : State) : Out := event glowReached s

/-- FAILED_START (R93). -/
def execFailedStart (s : State) : Out := event igniteReached s

/-- FLAME_OUT (R95). -/
def execFlameOut (s : State) : Out := event flameOutReached s

/-- PURGE_END (R96). -/
def execPurgeEnd (s : State) : Out := event purgeReached s

/-- CLEAR_LOCKOUT (R98). -/
def execClearLockout (p : PortId) (tag : Byte) (s : State) : Out := requestEvent p .clearLockout tag [] s

/-- CABIN_SENSOR_LOST (R101). -/
def execCabinSensorLost (s : State) : Out := event cabinReached s

/-- WATER_HOLD_EXPIRY (R103). -/
def execWaterHoldExpiry (s : State) : Out := event waterHoldReached s

/-- OPEN_DRAIN (R107). -/
def execOpenDrain (p : PortId) (tag : Byte) (s : State) : Out := requestEvent p .openDrain tag [] s

/-- CLOSE_DRAIN (R108). -/
def execCloseDrain (p : PortId) (tag : Byte) (s : State) : Out := requestEvent p .closeDrain tag [] s

/-! ### Motion -/

/-- END_SWITCH_CHANGE (R111). -/
def execEndSwitchChange (a : Actuator) (w : EndSwitch) (active : Bool) (s : State) : Out :=
  event (endSwitchChange a w active) s

/-- MOVE (R114). -/
def execMove (p : PortId) (tag actuator direction : Byte) (s : State) : Out :=
  requestEvent p .move tag [actuator, direction] s

/-- REVERSAL_END (R117). -/
def execReversalEnd (a : Actuator) (s : State) : Out := event (reversalReached a) s

/-- GRANT_WAIT_EXPIRY (R118). -/
def execGrantWaitExpiry (a : Actuator) (s : State) : Out := event (grantWaitReached a) s

/-- STALL (R120). -/
def execStall (a : Actuator) (s : State) : Out := event (stallReached a) s

/-- TRAVEL_TIME (R121). -/
def execTravelTime (a : Actuator) (s : State) : Out := event (travelReached a) s

/-- STOP_MOTION (R122). -/
def execStopMotion (p : PortId) (tag actuator : Byte) (s : State) : Out := requestEvent p .stopMotion tag [actuator] s

/-- CLEAR_FAULT (R123). -/
def execClearFault (p : PortId) (tag actuator : Byte) (s : State) : Out := requestEvent p .clearFault tag [actuator] s

/-! ### Lighting -/

/-- SCENE (R134). -/
def execScene (p : PortId) (tag number scope : Byte) (s : State) : Out := requestEvent p .scene tag [number, scope] s

/-- LEVELS (R138). -/
def execLevels (p : PortId) (tag first last mode : Byte) (list : List Byte) (s : State) : Out :=
  requestEvent p .levels tag (first :: last :: mode :: list) s

/-- FRAME_BOUNDARY (R136). -/
def execFrameBoundary (s : State) : Out := event boundaryTaken s

/-! ### Routines -/

/-- CALL (R152). -/
def execCall (p : PortId) (tag routine : Byte) (s : State) : Out := requestEvent p .call tag [routine] s

/-- WAIT_STEP_EXPIRY (R156). -/
def execWaitStepExpiry (s : State) : Out := event waitReached s

/-- WITHDRAW (R153). -/
def execWithdraw (p : PortId) (tag : Byte) (s : State) : Out := requestEvent p .withdraw tag [] s

/-- CANCEL (R158). -/
def execCancel (p : PortId) (tag : Byte) (s : State) : Out := requestEvent p .cancel tag [] s

/-! ### Links -/

/-- START_BIT_WAKE (R162). -/
def execStartBitWake (p : PortId) (s : State) : Out := event (startBit p) s

/-- CHARACTER_RECEIVED (R164). -/
def execCharacterReceived (p : PortId) (data : Byte) (parity stop : Bool) (s : State) : Out :=
  event (characterTaken p data parity stop) s

/-- BREAK (R163). -/
def execLineBreak (p : PortId) (s : State) : Out := event (breakLine p) s

/-- FRAME_ARRIVAL (R166). -/
def execFrameArrival (p : PortId) (kind tag : Byte) (body : List Byte) (s : State) : Out :=
  event (frameArrives p { kind := kind, tag := tag, body := body }) s

/-- FRAME_SENT (R173). -/
def execFrameSent (p : PortId) (s : State) : Out := event (frameDone p) s

/-- ATTACH (R170). -/
def execAttach (p : PortId) (tag level : Byte) (mask : Half) (s : State) : Out :=
  requestEvent p .attach tag (level :: halfBytes mask) s

/-- DETACH (R171). -/
def execDetach (p : PortId) (tag : Byte) (s : State) : Out := requestEvent p .detach tag [] s

/-- RESTART (R174). -/
def execRestart (p : PortId) (tag : Byte) (s : State) : Out := requestEvent p .restart tag [] s

/-- RESTART_EFFECT (R183). -/
def execRestartEffect (s : State) : Out := event restartEffect s

/-- RECEIVE_LINE_HIGH (R163). -/
def execReceiveLineHigh (p : PortId) (s : State) : Out := event (lineHigh p) s

/-! ### Records and settings -/

/-- READ (R177). -/
def execRead (p : PortId) (tag cls first count : Byte) (s : State) : Out :=
  requestEvent p .read tag [cls, first, count] s

/-- WRITE (R179). -/
def execWrite (p : PortId) (tag cls index : Byte) (mask : Half) (values : List Byte) (s : State) : Out :=
  requestEvent p .write tag (cls :: index :: (halfBytes mask ++ values)) s

/-- WRITE to BATTERY 0 (R6). -/
def execWriteBattery (p : PortId) (tag index : Byte) (mask : Half) (values : List Byte) (s : State) : Out :=
  writeEvent .battery p tag index mask values s

/-- WRITE to BUDGET 0 (R53). -/
def execWriteBudget (p : PortId) (tag index : Byte) (mask : Half) (values : List Byte) (s : State) : Out :=
  writeEvent .budget p tag index mask values s

/-- WRITE to a LOAD record (R39, R40). -/
def execWriteLoad (p : PortId) (tag index : Byte) (mask : Half) (values : List Byte) (s : State) : Out :=
  writeEvent .load p tag index mask values s

/-- WRITE to a TANK record (R68). -/
def execWriteTank (p : PortId) (tag index : Byte) (mask : Half) (values : List Byte) (s : State) : Out :=
  writeEvent .tank p tag index mask values s

/-- WRITE to WATER 0 (R75). -/
def execWriteWater (p : PortId) (tag index : Byte) (mask : Half) (values : List Byte) (s : State) : Out :=
  writeEvent .water p tag index mask values s

/-- WRITE to HEATER 0 (R89, R109). -/
def execWriteHeater (p : PortId) (tag index : Byte) (mask : Half) (values : List Byte) (s : State) : Out :=
  writeEvent .heater p tag index mask values s

/-- WRITE to a MOTION record (R121). -/
def execWriteMotion (p : PortId) (tag index : Byte) (mask : Half) (values : List Byte) (s : State) : Out :=
  writeEvent .motion p tag index mask values s

/-- WRITE to a CHANNEL record (R131, R132, R143). -/
def execWriteChannel (p : PortId) (tag index : Byte) (mask : Half) (values : List Byte) (s : State) : Out :=
  writeEvent .channel p tag index mask values s

/-- WRITE to a SCENE record (R133). -/
def execWriteScene (p : PortId) (tag index : Byte) (mask : Half) (values : List Byte) (s : State) : Out :=
  writeEvent .scene p tag index mask values s

/-- WRITE to a ROUTINE record (R150). -/
def execWriteRoutine (p : PortId) (tag index : Byte) (mask : Half) (values : List Byte) (s : State) : Out :=
  writeEvent .routine p tag index mask values s

/-- SAVE (R184). -/
def execSave (p : PortId) (tag : Byte) (s : State) : Out := requestEvent p .save tag [] s

/-- SAVE_COMPLETION (R184). -/
def execSaveCompletion (s : State) : Out := event saveComplete s

/-! ### Parked sleep -/

/-- PARKED_SLEEP_ENTRY (R187). -/
def execParkedSleepEntry (s : State) : Out := event idleReached s

end Sys2Proof.Machine
end

