-- ==== Sys2Proof/Machine/Dispatch.lean ====
section
/-! DEFINITION. The dispatch: one arm for each command, one direct call of its meaning. -/

namespace Sys2Proof.Machine

def exec (i : Instr) (s : State) : Host.Outcome State Fault Refusal :=
  match i with
  | .powerOn lines => Sys2Proof.Machine.execPowerOn lines s
  | .sampleEvent x => Sys2Proof.Machine.execSampleEvent x s
  | .restCorrection => Sys2Proof.Machine.execRestCorrection s
  | .fullChargeSync => Sys2Proof.Machine.execFullChargeSync s
  | .temperatureAbsenceLimit => Sys2Proof.Machine.execTemperatureAbsenceLimit s
  | .inhibitNoSensor => Sys2Proof.Machine.execInhibitNoSensor s
  | .drive p tag ignition engine cranking handbrake speed => Sys2Proof.Machine.execDrive p tag ignition engine cranking handbrake speed s
  | .crankLong => Sys2Proof.Machine.execCrankLong s
  | .reportStaleness => Sys2Proof.Machine.execReportStaleness s
  | .shorePresentChange active => Sys2Proof.Machine.execShorePresentChange active s
  | .lvdEntry => Sys2Proof.Machine.execLvdEntry s
  | .lvdExit => Sys2Proof.Machine.execLvdExit s
  | .loadSet p tag entry switch => Sys2Proof.Machine.execLoadSet p tag entry switch s
  | .scanStart t => Sys2Proof.Machine.execScanStart t s
  | .scanCompletion t wet => Sys2Proof.Machine.execScanCompletion t wet s
  | .flowPulse => Sys2Proof.Machine.execFlowPulse s
  | .pressureSwitchChange active => Sys2Proof.Machine.execPressureSwitchChange active s
  | .dryLock => Sys2Proof.Machine.execDryLock s
  | .pump p tag switch => Sys2Proof.Machine.execPump p tag switch s
  | .heat p tag mode setpoint => Sys2Proof.Machine.execHeat p tag mode setpoint s
  | .glowEnd => Sys2Proof.Machine.execGlowEnd s
  | .failedStart => Sys2Proof.Machine.execFailedStart s
  | .flameOut => Sys2Proof.Machine.execFlameOut s
  | .purgeEnd => Sys2Proof.Machine.execPurgeEnd s
  | .clearLockout p tag => Sys2Proof.Machine.execClearLockout p tag s
  | .cabinSensorLost => Sys2Proof.Machine.execCabinSensorLost s
  | .waterHoldExpiry => Sys2Proof.Machine.execWaterHoldExpiry s
  | .openDrain p tag => Sys2Proof.Machine.execOpenDrain p tag s
  | .closeDrain p tag => Sys2Proof.Machine.execCloseDrain p tag s
  | .endSwitchChange a w active => Sys2Proof.Machine.execEndSwitchChange a w active s
  | .move p tag actuator direction => Sys2Proof.Machine.execMove p tag actuator direction s
  | .reversalEnd a => Sys2Proof.Machine.execReversalEnd a s
  | .grantWaitExpiry a => Sys2Proof.Machine.execGrantWaitExpiry a s
  | .stall a => Sys2Proof.Machine.execStall a s
  | .travelTime a => Sys2Proof.Machine.execTravelTime a s
  | .stopMotion p tag actuator => Sys2Proof.Machine.execStopMotion p tag actuator s
  | .clearFault p tag actuator => Sys2Proof.Machine.execClearFault p tag actuator s
  | .scene p tag number scope => Sys2Proof.Machine.execScene p tag number scope s
  | .levels p tag first last mode list => Sys2Proof.Machine.execLevels p tag first last mode list s
  | .frameBoundary => Sys2Proof.Machine.execFrameBoundary s
  | .call p tag routine => Sys2Proof.Machine.execCall p tag routine s
  | .waitStepExpiry => Sys2Proof.Machine.execWaitStepExpiry s
  | .withdraw p tag => Sys2Proof.Machine.execWithdraw p tag s
  | .cancel p tag => Sys2Proof.Machine.execCancel p tag s
  | .startBitWake p => Sys2Proof.Machine.execStartBitWake p s
  | .characterReceived p data parity stop => Sys2Proof.Machine.execCharacterReceived p data parity stop s
  | .lineBreak p => Sys2Proof.Machine.execLineBreak p s
  | .frameArrival p kind tag body => Sys2Proof.Machine.execFrameArrival p kind tag body s
  | .frameSent p => Sys2Proof.Machine.execFrameSent p s
  | .attach p tag level mask => Sys2Proof.Machine.execAttach p tag level mask s
  | .detach p tag => Sys2Proof.Machine.execDetach p tag s
  | .restart p tag => Sys2Proof.Machine.execRestart p tag s
  | .restartEffect => Sys2Proof.Machine.execRestartEffect s
  | .read p tag cls first count => Sys2Proof.Machine.execRead p tag cls first count s
  | .write p tag cls index mask values => Sys2Proof.Machine.execWrite p tag cls index mask values s
  | .writeBattery p tag index mask values => Sys2Proof.Machine.execWriteBattery p tag index mask values s
  | .writeBudget p tag index mask values => Sys2Proof.Machine.execWriteBudget p tag index mask values s
  | .writeLoad p tag index mask values => Sys2Proof.Machine.execWriteLoad p tag index mask values s
  | .writeTank p tag index mask values => Sys2Proof.Machine.execWriteTank p tag index mask values s
  | .writeWater p tag index mask values => Sys2Proof.Machine.execWriteWater p tag index mask values s
  | .writeHeater p tag index mask values => Sys2Proof.Machine.execWriteHeater p tag index mask values s
  | .writeMotion p tag index mask values => Sys2Proof.Machine.execWriteMotion p tag index mask values s
  | .writeChannel p tag index mask values => Sys2Proof.Machine.execWriteChannel p tag index mask values s
  | .writeScene p tag index mask values => Sys2Proof.Machine.execWriteScene p tag index mask values s
  | .writeRoutine p tag index mask values => Sys2Proof.Machine.execWriteRoutine p tag index mask values s
  | .save p tag => Sys2Proof.Machine.execSave p tag s
  | .saveCompletion => Sys2Proof.Machine.execSaveCompletion s
  | .parkedSleepEntry => Sys2Proof.Machine.execParkedSleepEntry s
  | .supplyLoss => Sys2Proof.Machine.execSupplyLoss s
  | .receiveLineHigh p => Sys2Proof.Machine.execReceiveLineHigh p s

end Sys2Proof.Machine
end

