-- ==== Sys2Proof/Machine/Timers.lean ====
section
/-! DEFINITION. The part's timers that count in time rather than in samples: how each advances over the time of one idle
step, and the expiry commands that fall due (log entry 2). -/

namespace Sys2Proof.Machine

/-- A timer that runs while `on` advances by the tick. -/
def advance (on : Bool) (t : Nat) : Nat := if on then t + Config.tickTime else t

/-- A timer that runs stands at its limit or beyond. Its expiry falls due at every tick that finds it so: one that was taken
while the timer stood frozen is taken again once it runs (R92, R93, R121, R156). -/
def reached (on : Bool) (t limit : Nat) : Bool := on && decide (limit ≤ t)

/-- A deploy that waits for its grant, in WAIT_GRANT or in the pause of a reversal (R117, R118). -/
def grantWaits (s : State) (r : MotionRec) : Bool :=
  r.activity == .waitGrant
    || (r.activity == .reversing && r.direction == some .deploy && !s.adm.isGranted motorEntry)

/-- A motion record's timers (R117, R118, R121). -/
def tickRec (s : State) (r : MotionRec) : MotionRec :=
  { r with
    travel := advance (r.activity == .moving) r.travel
    grantWait := advance (grantWaits s r) r.grantWait
    reversal := advance (r.activity == .reversing) r.reversal }

/-- The heater's phase timer runs: glow and ignite not while CRANKING, purge always (R92, R93, R96, R100). -/
def phaseRuns (s : State) : Bool :=
  match s.heater.state with
  | .glow => s.drive.state != .cranking
  | .ignite => s.drive.state != .cranking
  | .purge => true
  | _ => false

/-- A tank's scan timer and settle (R69). -/
def tickTank (k : TankRec) : TankRec :=
  { k with
    settleTime := min Config.scanSettle (advance (k.settle != .idle) k.settleTime)
    scanTimer := advance true k.scanTimer }

/-- The running routine's step timer: it runs towards the WAIT's argument while the drive state is not CRANKING (R156). -/
def tickRun (s : State) (r : Run) : Run :=
  match waitLimit s.settings r with
  | none => r
  | some n => { r with timer := min n (advance (s.drive.state != .cranking) r.timer) }

/-- Every timer after the tick. -/
def tickTimers (s : State) : State :=
  { s with
    drive := { s.drive with
      age := if s.drive.reported then min Config.reportAgeStop (advance true s.drive.age) else s.drive.age
      crankTimer := advance (s.drive.state == .cranking) s.drive.crankTimer }
    heater := { s.heater with
      phase := advance (phaseRuns s) s.heater.phase
      flameTimer := advance (s.heater.state == .run && s.heater.flameRunning) s.heater.flameTimer }
    water := { s.water with dryTimer := advance (s.water.pump == .running) s.water.dryTimer }
    tanks := { fresh := tickTank s.tanks.fresh, grey := tickTank s.tanks.grey, black := tickTank s.tanks.black }
    motion := { s.motion with
      recs := { awning := tickRec s s.motion.recs.awning, step := tickRec s s.motion.recs.step } }
    light := { s.light with frameTimer := advance (s.sleep.state != .parkedSleep) s.light.frameTimer }
    runner := { s.runner with run := s.runner.run.map (tickRun s) }
    saving := s.saving.map fun j => { j with elapsed := advance true j.elapsed }
    sleep := { s.sleep with idle := advance (s.sleep.state == .sleepPending) s.sleep.idle } }

/-- A command, if it is due. -/
def dueIf (b : Bool) (c : Instr) : List Instr := if b then [c] else []

/-- The heater's expiries due in a state. -/
def dueHeater (s : State) : List Instr :=
  let h := s.heater
  dueIf (reached (h.state == .glow && s.drive.state != .cranking) h.phase Config.glowTime) .glowEnd
    ++ dueIf (reached (h.state == .ignite && s.drive.state != .cranking) h.phase Config.igniteTime) .failedStart
    ++ dueIf (reached (h.state == .run && h.flameRunning) h.flameTimer Config.flameOutTime) .flameOut
    ++ dueIf (reached (h.state == .purge) h.phase Config.purgeTime) .purgeEnd

/-- A motion record's expiries due. -/
def dueRec (a : Actuator) (r : MotionRec) : List Instr :=
  dueIf (reached (r.activity == .reversing) r.reversal Config.reversalTime) (.reversalEnd a)
    ++ dueIf (reached (r.activity == .waitGrant) r.grantWait Config.grantWaitTime) (.grantWaitExpiry a)
    ++ dueIf (reached (r.activity == .moving) r.travel (r.limit * 100)) (.travelTime a)

/-- A tank's scan due. -/
def dueTank (t : TankId) (k : TankRec) : List Instr := dueIf (reached true k.scanTimer k.scanPeriod) (.scanStart t)

/-- The WAIT step's expiry due in a state. -/
def dueWait (s : State) : List Instr :=
  match s.runner.run with
  | none => []
  | some r => match waitLimit s.settings r with
    | none => []
    | some n => dueIf (reached (s.drive.state != .cranking) r.timer n) .waitStepExpiry

/-- The save's completion due in a state. -/
def dueSave (s : State) : List Instr :=
  match s.saving with
  | none => []
  | some j => dueIf (reached true j.elapsed Config.saveLimit) .saveCompletion

/-- The expiry commands due in a state, in a fixed order. -/
def due (s : State) : List Instr :=
  dueIf (reached (s.drive.state == .cranking) s.drive.crankTimer Config.crankLimit) .crankLong
    ++ dueIf (reached (s.drive.state != .unknown) s.drive.age Config.stalenessLimit) .reportStaleness
    ++ dueHeater s
    ++ dueIf (reached (s.water.pump == .running) s.water.dryTimer (dryLimitOf s)) .dryLock
    ++ dueRec .awning s.motion.recs.awning
    ++ dueRec .step s.motion.recs.step
    ++ dueWait s
    ++ dueIf (reached (s.sleep.state == .sleepPending) s.sleep.idle Config.idleLimit) .parkedSleepEntry
    ++ dueTank .fresh s.tanks.fresh
    ++ dueTank .grey s.tanks.grey
    ++ dueTank .black s.tanks.black
    ++ dueIf (reached (s.sleep.state != .parkedSleep) s.light.frameTimer Config.framePeriod) .frameBoundary
    ++ dueSave s

/-- Time passes: the timers advance and the expiries that fall due join the queue. A part without supply counts no
time. -/
def tick (s : State) : State :=
  if s.powered then
    let t := tickTimers s
    t.withPending (s.pending ++ due t)
  else s

end Sys2Proof.Machine
end

