-- ==== Sys2Proof/WellFormed.lean ====
section
/-! DEFINITION. Well-formed commands: a request's frame carries at most 48 body bytes (section 9.3) and holds no run of four
zero bytes, which would abandon it before it arrives (R165); the commands of the part's own inputs are all well
formed. -/

namespace Sys2Proof

open Machine

/-- The frame of a request of a kind. -/
def reqFrame (k : ReqKind) (tag : Byte) (body : List Byte) : Frame := { kind := byte k.code, tag := tag, body := body }

/-- The frame of a WRITE to a class. -/
def writeFrame (c : RecClass) (tag index : Byte) (mask : Half) (values : List Byte) : Frame :=
  reqFrame .write tag (writeBody c index mask values)

/-- The frame that a request row stands for, with its port; none for an event of the part's own. -/
def Instr.frame : Instr → Option (PortId × Frame)
  | .powerOn _ => none
  | .sampleEvent _ => none
  | .restCorrection => none
  | .fullChargeSync => none
  | .temperatureAbsenceLimit => none
  | .inhibitNoSensor => none
  | .drive p tag i e c h v => some (p, reqFrame .drive tag (i :: e :: c :: h :: halfBytes v))
  | .crankLong => none
  | .reportStaleness => none
  | .shorePresentChange _ => none
  | .lvdEntry => none
  | .lvdExit => none
  | .loadSet p tag e sw => some (p, reqFrame .loadSet tag [e, sw])
  | .scanStart _ => none
  | .scanCompletion _ _ => none
  | .flowPulse => none
  | .pressureSwitchChange _ => none
  | .dryLock => none
  | .pump p tag sw => some (p, reqFrame .pump tag [sw])
  | .heat p tag m t => some (p, reqFrame .heat tag (m :: halfBytes t))
  | .glowEnd => none
  | .failedStart => none
  | .flameOut => none
  | .purgeEnd => none
  | .clearLockout p tag => some (p, reqFrame .clearLockout tag [])
  | .cabinSensorLost => none
  | .waterHoldExpiry => none
  | .openDrain p tag => some (p, reqFrame .openDrain tag [])
  | .closeDrain p tag => some (p, reqFrame .closeDrain tag [])
  | .endSwitchChange _ _ _ => none
  | .move p tag a d => some (p, reqFrame .move tag [a, d])
  | .reversalEnd _ => none
  | .grantWaitExpiry _ => none
  | .stall _ => none
  | .travelTime _ => none
  | .stopMotion p tag a => some (p, reqFrame .stopMotion tag [a])
  | .clearFault p tag a => some (p, reqFrame .clearFault tag [a])
  | .scene p tag n sc => some (p, reqFrame .scene tag [n, sc])
  | .levels p tag f l m vs => some (p, reqFrame .levels tag (f :: l :: m :: vs))
  | .frameBoundary => none
  | .call p tag n => some (p, reqFrame .call tag [n])
  | .waitStepExpiry => none
  | .withdraw p tag => some (p, reqFrame .withdraw tag [])
  | .cancel p tag => some (p, reqFrame .cancel tag [])
  | .startBitWake _ => none
  | .characterReceived _ _ _ _ => none
  | .lineBreak _ => none
  | .frameArrival p k tag body => some (p, { kind := k, tag := tag, body := body })
  | .frameSent _ => none
  | .attach p tag l m => some (p, reqFrame .attach tag (l :: halfBytes m))
  | .detach p tag => some (p, reqFrame .detach tag [])
  | .restart p tag => some (p, reqFrame .restart tag [])
  | .restartEffect => none
  | .read p tag c f n => some (p, reqFrame .read tag [c, f, n])
  | .write p tag c i m vs => some (p, reqFrame .write tag (c :: i :: (halfBytes m ++ vs)))
  | .writeBattery p tag i m vs => some (p, writeFrame .battery tag i m vs)
  | .writeBudget p tag i m vs => some (p, writeFrame .budget tag i m vs)
  | .writeLoad p tag i m vs => some (p, writeFrame .load tag i m vs)
  | .writeTank p tag i m vs => some (p, writeFrame .tank tag i m vs)
  | .writeWater p tag i m vs => some (p, writeFrame .water tag i m vs)
  | .writeHeater p tag i m vs => some (p, writeFrame .heater tag i m vs)
  | .writeMotion p tag i m vs => some (p, writeFrame .motion tag i m vs)
  | .writeChannel p tag i m vs => some (p, writeFrame .channel tag i m vs)
  | .writeScene p tag i m vs => some (p, writeFrame .scene tag i m vs)
  | .writeRoutine p tag i m vs => some (p, writeFrame .routine tag i m vs)
  | .save p tag => some (p, reqFrame .save tag [])
  | .saveCompletion => none
  | .parkedSleepEntry => none
  | .supplyLoss => none
  | .receiveLineHigh _ => none

/-- The bytes of a frame from KIND to CHECK (section 10.6). -/
def frameBytes (f : Frame) : List Byte :=
  let inner := f.kind :: f.tag :: byte f.body.length :: f.body
  inner ++ be16 (frameCheck inner)

/-- A run of four zero bytes stands in the list, `run` of them before its first (R165). -/
def zeroRun : Nat → List Byte → Bool
  | _, [] => false
  | run, b :: rest =>
    if b = 0 then (if Config.resyncRun ≤ run + 1 then true else zeroRun (run + 1) rest) else zeroRun 0 rest

/-- The frame can arrive as one. -/
def Frame.fits (f : Frame) : Bool := decide (f.body.length ≤ Config.maxBody) && !zeroRun 0 (frameBytes f)

/-- A command is well formed. -/
def Instr.wellFormed (i : Instr) : Bool :=
  match i.frame with
  | none => true
  | some x => x.2.fits

end Sys2Proof
end

