-- ==== Sys2Proof/Safety.lean ====
section
/-! DEFINITION. What counts as a safe step, and the invariants and conditions that the statements are put in terms of. -/

namespace Sys2Proof.Machine

/-- The step goes on: no fault and no refusal. -/
def goesOn (o : Out) : Bool :=
  match o with
  | .next _ => true
  | .fault _ => false
  | .refused _ => false

/-- Nothing is left to be handed on (R47, R130, R154). -/
def State.settled (s : State) : Bool := s.adm.changes.isEmpty && s.runner.handed.isNone && !s.runner.due

/-- A request waits in slot A, not yet delivered (R168). -/
def Port.waiting (x : Port) : Bool :=
  match x.slotA with
  | none => false
  | some a => !a.delivered

/-- A port serves nothing, now or once its transmitter has chosen: no request waits, or the answer place is full and the
transmitter busy, or (`held`) it is PANEL with a RESTART in flight (R168, R173, R174). -/
def Port.still (held : Bool) (x : Port) : Bool := !x.waiting || (x.answer.isSome && x.sending.isSome) || held

/-- The port serves nothing. -/
def State.stillAt (s : State) (p : PortId) : Bool := (s.ports.get p).still (p == .panel && s.restarting)

/-- No port serves anything. -/
def State.linksIdle (s : State) : Bool := s.stillAt .panel && s.stillAt .remote && s.stillAt .vehicle

/-- The sleep block agrees with the entry conditions (R187, R190): while all hold the part is not AWAKE; while one fails it is
AWAKE with the idle timer at 0 and the quiet-wake mark clear. -/
def State.judged (s : State) : Bool :=
  if sleepReady s then s.sleep.state != .awake else s.sleep == { state := .awake, idle := 0, quietMark := false }

/-- The part has supply and stands between events: nothing to hand on, nothing to serve, the sleep conditions judged. -/
def State.calm (s : State) : Bool := s.powered && s.settled && s.linksIdle && s.judged

/-- The part stands between events, and the port, attached, would serve a request that arrives at once: both slots and the
answer place are empty and no RESTART of the PANEL port is in flight (R166, R168, R174). -/
def State.open_ (p : PortId) (s : State) : Bool :=
  let x := s.ports.get p
  s.calm && x.attached && x.slotA.isNone && x.slotB.isNone && x.answer.isNone && !(p == .panel && s.restarting)

/-- Each transmitter chooses (R173). -/
def transmitAll (s : State) : State :=
  s.withPorts { panel := s.ports.panel.choose, remote := s.ports.remote.choose, vehicle := s.ports.vehicle.choose }

/-- What closes an event that leaves nothing to hand on and nothing to serve. -/
def close (s : State) : State := judgeSleep (transmitAll s)

/-- The state in which a frame that has just arrived on an open port is delivered to its owner: the receiver has returned to
hunting, the arrival is reported to parked sleep (R187, R190), and the request stands delivered in slot A (R168). -/
def inService (p : PortId) (f : Frame) (s : State) : State :=
  let s1 := reportArrival p f (s.setPort p { s.ports.get p with asm := .hunting, line := .looking })
  s1.setPort p { s1.ports.get p with slotA := some { frame := f, delivered := true } }

/-- What a request of kind `k`, answered at an open port, leaves of the state `u` that its owner made: the receiver hunting,
the arrival reported to parked sleep (R187, R190), the answer entered in the answer place (R168, R169), and the event
closed. The request row is the arrival of its frame (log entry 1), after which the line stands between characters whatever it
was (DESIGN CHOICE, log entry 19). -/
def concluded (p : PortId) (k : ReqKind) (tag : Byte) (st : Status) (rest : List Byte) (u : State) : State :=
  close (reportArrival p (reqFrame k tag []) (u.setPort p { u.ports.get p with
    asm := .hunting, line := .looking
    answer := some { kind := byte k.code + 0x80, tag := tag, body := byte st.code :: rest, restart := k == .restart } }))

/-- An admission pass would grant nothing and count nothing: disconnect is in force or nothing waits (R57). -/
def State.passive (s : State) : Bool := s.adm.lvd || s.adm.queue.isEmpty

/-- The load table with an entry OFF and out of every list (R45). -/
def Adm.entryOff (a : Adm) (e : Fin 20) : Adm :=
  (a.unlist e).setEntry e { a.entries[e] with state := .off, grant := 0, pass := 0 }

/-- The load table with an entry GRANTED at a rating outside the counted sums, and out of every list (R42, R43). -/
def Adm.entryGranted (a : Adm) (e : Fin 20) (c : LoadClass) (rating : Nat) : Adm :=
  (a.unlist e).setEntry e { cls := c, rating := rating, state := .granted, grant := rating, pass := 0 }

/-- The load table with an entry WAITING in a class at a rating, without a grant, and out of every list (R43, R44). -/
def Adm.entryWaiting (a : Adm) (e : Fin 20) (c : LoadClass) (rating : Nat) : Adm :=
  (a.unlist e).setEntry e { cls := c, rating := rating, state := .waiting, grant := 0, pass := 0 }

/-- The load table with an entry GRANTED at a rating in a counted class, at the tail of the granted list (R56). -/
def Adm.entryListed (a : Adm) (e : Fin 20) (c : LoadClass) (rating : Nat) : Adm :=
  { a.entryGranted e c rating with granted := (a.granted.erase e) ++ [e] }

/-- R56's tests for an entry that asks at a rating in a counted class, the sums taken with the entry waiting. -/
def Adm.room (a : Adm) (e : Fin 20) (c : LoadClass) (rating : Nat) : Bool :=
  let w := a.entryWaiting e c rating
  decide (rating + 200 + w.sumS ≤ a.budget) && (c != .deferrable || decide (rating + w.sumD ≤ a.fUsed))

/-- The entry holds no grant that counts in S or D (R54). -/
def Adm.uncounted (a : Adm) (e : Fin 20) : Bool := !(a.entries[e].counted && decide (0 < a.entries[e].grant))

/-- Frost release opens no drain in a heater state other than RUN and PURGE either: the guard is OFF, the drain OPEN, or the
water above 3.0 degrees (R106). -/
def State.frostQuiet (s : State) : Bool :=
  !s.settings.frostGuard || s.frost.drainOpen || (match s.frost.water with
    | some temp => decide (30 < temp)
    | none => false)

/-- The heater as it stands at the entry to a state (section 5.2). -/
def Heater.entering (h : Heater) (dest : HeaterState) : Heater :=
  { h with state := dest, phase := 0, demand := none, flameRunning := false, flameTimer := 0 }

/-- The load table with an entry OFF and out of every list if it was not OFF (R45). -/
def Adm.withdrawn (a : Adm) (e : Fin 20) : Adm := if a.entries[e].state = .off then a else a.entryOff e

/-- The load table at the entry to PURGE: entry 3 OFF, entry 2 PROTECTED at 180 (R96). -/
def Adm.purging (a : Adm) : Adm := (a.withdrawn 3).entryGranted 2 .prot 180

/-- A purge that begins changes entries 2 and 3 alone: no admission pass follows the release of entry 3 with an effect, and
entry 2 holds no counted grant and is not yet PROTECTED at 180. -/
def State.purgeReady (s : State) : Bool :=
  (s.passive || s.adm.entries[(3 : Fin 20)].state == .off) && s.adm.uncounted 2
    && !(s.adm.entries[(2 : Fin 20)].state != .off && s.adm.entries[(2 : Fin 20)].cls == .prot
      && s.adm.entries[(2 : Fin 20)].rating == 180)

/-- The release of an entry is followed by no admission pass with an effect: disconnect is in force or nothing else waits
(R45, R57). -/
def State.passiveBut (e : Fin 20) (s : State) : Bool := s.adm.lvd || (s.adm.queue.erase e).isEmpty

/-- A motion record as it comes to rest with an activity, a fault kind and a result (R119, R121, R122). -/
def MotionRec.resting (r : MotionRec) (act : Activity) (k : FaultKind) (res : MotionResult) : MotionRec :=
  { r with
    activity := act, direction := none, requester := none, stallTimer := 0, surge := false, grantWait := 0
    reversal := 0, fault := k, result := res }

/-- A motion record whose motor starts to run: MOVING, or PAUSED while CRANKING (R115, R126). -/
def MotionRec.running (r : MotionRec) (ds : DriveState) : MotionRec :=
  { r with
    activity := if ds = .cranking then .paused else .moving
    stallTimer := 0, surge := true, grantWait := 0, reversal := 0 }

/-- A motion record that a start or a turn has just given a direction, a requester and the travel limit in force (R115,
R121). -/
def MotionRec.begun (r : MotionRec) (d : Direction) (q : Requester) (limit : Nat) : MotionRec :=
  { r with direction := some d, requester := some q, travel := 0, stallTimer := 0, limit := limit }

/-- The state with the holder's motion ended and nothing waiting for the driver: the record at rest, entry 1 OFF, the
driver free, MOTION raised. -/
def State.ended (s : State) (a : Actuator) (act : Activity) (k : FaultKind) (res : MotionResult) : State :=
  raise .motion .motion (actuatorIndex a) ((s.withMotion { s.motion with
    recs := s.motion.recs.set a ((s.motionRec a).resting act k res), holder := none }).withAdm (s.adm.withdrawn 1))

/-- The record holds the driver with no waiter, no routine waits for its motion, and no admission pass follows the release
of entry 1 with an effect. -/
def State.aloneAt (s : State) (a : Actuator) : Bool :=
  s.motion.holder == some a && s.motion.waiter.isNone && (s.motionRec a).requester != some .routine && s.passiveBut 1

/-- The load table with an entry at the head and tail of an otherwise empty queue, tested once by a pass and not fitting
(R44, R57). -/
def Adm.entryQueued (a : Adm) (e : Fin 20) (c : LoadClass) (rating : Nat) : Adm :=
  { (a.unlist e).setEntry e { cls := c, rating := rating, state := .waiting, grant := 0, pass := 1 } with queue := [e] }

/-- The holder's motion can end with its waiter, a stow away from its end, taking the driver: no routine waits for the motion,
and no admission pass follows the release of entry 1 with an effect (R112). -/
def State.handsOver (s : State) (a b : Actuator) : Bool :=
  b != a && s.motion.holder == some a && s.motion.waiter == some b && (s.motionRec a).requester != some .routine
    && s.passiveBut 1 && s.adm.entries[(1 : Fin 20)].state != .off
    && (s.motionRec b).direction == some .stow && !(s.motionRec b).atEnd .stow

/-- The state with the holder's motion ended and the driver passed to the waiting stow of `b`, which runs (R112, R115). -/
def State.passedOn (s : State) (a b : Actuator) (act : Activity) (k : FaultKind) (res : MotionResult) : State :=
  raise .motion .motion (actuatorIndex a) ((s.withMotion { s.motion with
    recs := (s.motion.recs.set a ((s.motionRec a).resting act k res)).set b ((s.motionRec b).running s.drive.state)
    holder := some b, waiter := none }).withAdm ((s.adm.entryOff 1).entryGranted 1 .prot (motorRating b)))

/-- What drive state and motions make of a reset of the VEHICLE port (R29): UNKNOWN with the crank timer at 0 and the enables
judged again, each PAUSED motion running again (R126), and out of PARKED a deploy in flight stopped INTERLOCK (R128), here
at most one, of a record that is alone. -/
def State.driveLost (s : State) : Option State :=
  let stale := s.withDrive ({ s.drive with state := .unknown, crankTimer := 0 } : DriveSide).judge
  let go (r : MotionRec) : MotionRec :=
    if r.activity = .paused then { r with activity := .moving, stallTimer := 0, surge := true } else r
  let deploys (a : Actuator) : Bool := (s.motionRec a).deploying
  match s.drive.state with
  | .unknown => some (s.withDrive s.drive.judge)
  | .ready => some stale
  | .moving => some stale
  | .cranking => some (stale.withMotion { s.motion with
      recs := { awning := go s.motion.recs.awning, step := go s.motion.recs.step } })
  | .parked =>
    if !deploys .awning && !deploys .step then some stale
    else if !deploys .step && s.aloneAt .awning then some (stale.ended .awning .idle .none .interlock)
    else if !deploys .awning && s.aloneAt .step then some (stale.ended .step .idle .none .interlock)
    else none

/-- What the other blocks make of a port reset, the port's own fields already reset: drive state and motions of VEHICLE's
(R29), lighting's window and commits of the port (R142), the runner's pending call from it (R159). -/
def State.portLost (p : PortId) (s : State) : Option State :=
  (if p = .vehicle then s.driveLost else some s).map fun v =>
    (v.withLight { s.light with
      ports := s.light.ports.set p { s.light.ports.get p with window := none }
      commits := s.light.commits.filter fun c => c.port != p }).withRunner { s.runner with
        pendingCall := s.runner.pendingCall.filter fun c => c.caller != p }

/-- The routine waits for the motion of the driver's holder, no call is pending and no waiter stands, and no admission pass
follows the release of entry 1 with an effect (R155). -/
def State.routineAt (s : State) (a : Actuator) (r : Run) : Bool :=
  s.motion.holder == some a && s.motion.waiter.isNone && (s.motionRec a).requester == some .routine && s.passiveBut 1
    && s.runner.run == some r && r.phase == .onMotion a && s.runner.pendingCall.isNone

/-- The state with the running routine ended and no call pending (R157). -/
def State.routineEnded (s : State) (r : Run) (kind : EndKind) (why : EndReason) : State :=
  raise .routineEnd .routine r.call.routine.val (s.withRunner { s.runner with
    run := none
    lastEnds := s.runner.lastEnds.set r.call.routine
      { kind := kind, step := r.step, reason := why, caller := some r.call.caller } })

/-- The state in which a sample reaches the heater where the blocks before it change no grant: the account, the charge paths
and the admission controller have taken it (R8, R23, R37, R50, R120). -/
def sampleAdmitted (x : Sample) (s : State) : State := budgetEvent x (driveSample x (accountSample x (surgeSample s)))

/-- The heater has nothing to judge at a sample but its cabin temperature: it is in none of IGNITE, RUN and STANDBY. -/
def State.heaterPassive (s : State) : Bool :=
  s.heater.state != .ignite && s.heater.state != .run && s.heater.state != .standby

/-- The frost guard has nothing to do at a sample but to take the water temperature: the bay lies above 5.0 and below 8.0
degrees, and below 6.0 while the pads are asked for (R84, R104, R106). -/
def State.frostPassive (x : Sample) (s : State) : Bool :=
  (readTWaterBay x).value.any fun temp => decide (50 < temp) && decide (temp < 80) && (!s.water.asking || decide (temp < 60))

/-- The heater with a sample's cabin temperature taken over the period `p` (R101). -/
def Heater.takingCabin (h : Heater) (p : Nat) (cabin : Option Int) : Heater :=
  match cabin with
  | some temp => { h with cabin := some temp, cabinAbsence := 0 }
  | none => { h with
      cabinAbsence := h.cabinAbsence + p, cabin := if 60000 ≤ h.cabinAbsence + p then none else h.cabin }

/-- The load table with lighting granted in full at a floor and an elastic part (R58, R59). -/
def Adm.lit (a : Adm) (f e : Nat) : Adm :=
  { a.setEntry 5 { a.entries[(5 : Fin 20)] with rating := f + e, state := .granted, grant := e, pass := 0 } with
    granted := if e ≤ a.entries[(5 : Fin 20)].grant ∧ 5 ∈ a.granted then a.granted else a.granted.erase 5 ++ [5]
    floorGrant := f, floorWanted := f, elasticWanted := e }

/-- The load table with lighting's request held for the exit from disconnect (R58). -/
def Adm.litLater (a : Adm) (f e : Nat) : Adm :=
  { a.setEntry 5 { a.entries[(5 : Fin 20)] with rating := f + e, state := .waiting, pass := 0 } with
    resume := if 5 ∈ a.resume then a.resume else a.resume ++ [5]
    floorGrant := 0, floorWanted := f, elasticWanted := e }

/-- The load table with lighting released (R45, R58). -/
def Adm.unlit (a : Adm) : Adm :=
  if a.entries[(5 : Fin 20)].state = .off then a
  else
    { (a.unlist 5).setEntry 5 { a.entries[(5 : Fin 20)] with rating := 0, state := .off, grant := 0, pass := 0 } with
      floorGrant := 0, floorWanted := 0, elasticWanted := 0 }

/-- The state once a lighting engine `l` has asked for its demand (R143, R144), in the cases that leave no part of it open: the
demand is the one last asked for; it is zero and entry 5 is released with no pass that has an effect; LVD holds the
request; nothing waits and the elastic part is granted in full, whose grants are handed to the engine. -/
def State.litTo (s : State) (l : Light) : Option State :=
  let f := l.floor
  let e := l.demand - f
  let asked : Light := { l with askedFloor := f, askedElastic := e }
  if f = l.askedFloor ∧ l.demand = l.askedFloor + l.askedElastic then some (s.withLight l)
  else if l.demand = 0 ∧ f = 0 then
    (if s.passiveBut 5 then
      some ((s.withLight { asked with handedFloor := 0, handedElastic := 0 }).withAdm s.adm.unlit)
    else none)
  else if s.adm.lvd then some ((s.withLight asked).withAdm (s.adm.litLater f e))
  else if s.adm.queue = [] ∧ (e ≤ s.adm.entries[(5 : Fin 20)].grant
      ∨ e - s.adm.entries[(5 : Fin 20)].grant + 200 + s.adm.sumS ≤ s.adm.budget) then
    some ((s.withLight { asked with handedFloor := f, handedElastic := e }).withAdm (s.adm.lit f e))
  else none

/-- What an assembler inside a frame holds: the bytes from KIND on, and the zero run (R164, R165). -/
def Assembler.frame : Assembler → Option (List Byte × Nat)
  | .inFrame bytes zeros => some (bytes, zeros)
  | _ => none

/-- Every working setting, and every one of a save's snapshot, lies within its range and order (R180, R181). -/
def State.settingsValid (s : State) : Prop :=
  s.settings.valid = true ∧ ∀ j, s.saving = some j → j.snapshot.valid = true

/-- The pump is in FROST_LOCK exactly while the drain is OPEN (section 4.5, R77, R83). -/
def State.drainLocksPump (s : State) : Prop := s.water.pump = .frostLock ↔ s.frost.drainOpen = true

/-- While the LVD state is LVD the waiting queue is empty and the budget is 0 (R51, R55). -/
def State.lvdEmpties (s : State) : Prop := s.adm.lvd = true → s.adm.queue = [] ∧ s.adm.budget = 0

/-- A DETACHED port holds no request, no notice, no level and no subscription; a notice queue holds each kind once, and
only kinds of the subscription set (R166, R171, R172). -/
def Port.proper (x : Port) : Prop :=
  (x.attached = false → x.level = none ∧ x.subscription = 0 ∧ x.slotA = none ∧ x.slotB = none ∧ x.queue = [])
    ∧ (x.queue.map (·.kind)).Nodup
    ∧ ∀ n, n ∈ x.queue → subscribed x.subscription n.kind = true

/-- Every port is proper. -/
def State.portsProper (s : State) : Prop := ∀ p, (s.ports.get p).proper

/-- An entry condition has failed within the event: the part is out of PARKED_SLEEP, AWAKE or anew in SLEEP_PENDING, with the
idle timer at 0 and the quiet-wake mark clear (R187, R189, R190). -/
def State.lapsed (s : State) : Prop := s.sleep.state ≠ .parkedSleep ∧ s.sleep.idle = 0 ∧ s.sleep.quietMark = false

/-- With supply the sleep block agrees with the entry conditions (R187, R190). -/
def State.sleepFollows (s : State) : Prop := s.powered = true → s.judged = true

/-- The account's charge lies within its capacity and its proportions within 0 to 1000; before the power-on estimate it
holds no charge (R10, R16, R22, R23). -/
def State.accountBounded (s : State) : Prop :=
  s.account.q ≤ s.account.ct ∧ s.account.soc ≤ 1000 ∧ s.account.socEff ≤ 1000
    ∧ (s.account.estimated = false → s.account.q = 0 ∧ s.account.soc = 0 ∧ s.account.socEff = 0)

/-- A motion record in flight has a direction and one at rest has none; outside PARKED none carries a deploy; a PAUSED
one stands in CRANKING (R125). -/
def State.deploysParked (s : State) : Prop :=
  ∀ a, ((s.motionRec a).inFlight = (s.motionRec a).direction.isSome)
    ∧ ((s.motionRec a).deploying = true → s.drive.state = .parked)
    ∧ ((s.motionRec a).activity = .paused → s.drive.state = .cranking)

/-- A record that needs the driver and has it is the holder, one in WAIT_DRIVER is the waiter, and nothing waits for a free
driver (R112). -/
def State.driverHeld (s : State) : Prop :=
  (∀ a, s.motion.holder = some a ↔ ((s.motionRec a).inFlight = true ∧ (s.motionRec a).activity ≠ .waitDriver))
    ∧ (∀ a, s.motion.waiter = some a ↔ (s.motionRec a).activity = .waitDriver)
    ∧ (s.motion.holder = none → s.motion.waiter = none)

/-- The classes an entry can stand in: those of its owner's requests and of its setting (section 3.1, R40). -/
def classFits (e : Fin 20) (c : LoadClass) : Prop :=
  match e.val with
  | 0 => c = .prot
  | 1 => c = .comfort ∨ c = .prot
  | 2 => c = .essential ∨ c = .prot
  | 3 => c = .comfort
  | 4 => c = .essential
  | 5 => c = .comfort
  | 6 => c = .deferrable
  | _ => c ≠ .prot

/-- The load table agrees with its lists (R54, R55): outside disconnect nothing waits to resume (R66), no entry but lighting
holds a grant without being GRANTED, and the counted sums lie within their limits: S within B and D within F (R54). -/
structure Adm.sound (a : Adm) : Prop where
  released : a.lvd = false → a.resume = []
  ungranted : ∀ e, e ≠ lightEntry → a.entries[e].state ≠ .granted → a.entries[e].grant = 0
  queueOnce : a.queue.Nodup
  grantedOnce : a.granted.Nodup
  resumeOnce : a.resume.Nodup
  classes : ∀ e, classFits e a.entries[e].cls
  queued : ∀ e, e ∈ a.queue → a.entries[e].counted = true ∧ (a.entries[e].state = .waiting ∨ a.entries[e].state = .shed)
  resumed : ∀ e, e ∈ a.resume → a.entries[e].counted = true ∧ a.entries[e].state = .waiting
  listed : ∀ e, e ∈ a.granted ↔ (a.entries[e].counted = true ∧ a.entries[e].state = .granted)
  held : ∀ e, a.entries[e].counted = true → 0 < a.entries[e].grant → e ∈ a.granted ∨ (e = lightEntry ∧ e ∈ a.queue)
  disconnected : a.lvd = true → a.queue = [] ∧ a.granted = [] ∧ a.budget = 0
  withinB : a.sumS ≤ a.budget
  withinF : a.sumD ≤ a.fUsed

end Sys2Proof.Machine
end

