-- ==== Sys2Proof/Certificates/Slice0/Obligations.lean ====
section
/-! DEFINITION. What is stated of the W612 for the provers. A statement about one command gives the whole state that the
command leaves: `close u` is `u` once the transmitters have chosen and the sleep conditions are judged, and `concluded` says
the same of a request that an open port has answered. What such a statement does not name is as it was. The judgings within
an event show in a statement only where one of the conditions can fail and hold again before its end (R187, log entry 22). -/

section
open Sys2Proof Sys2Proof.Machine

/-! ### The step and the whole part -/

/-- A step with commands waiting runs the one at the front, with the queue's rest. The queue is the model's own field. -/
def Obligations.StepRunsFrontCommand : Prop :=
  ∀ (c : Instr) (rest : List Instr) (s : State), step (s.withPending (c :: rest)) = exec c (s.withPending rest)

/-- On an empty queue one millisecond passes (DESIGN CHOICE, log entry 2): each timer that runs in the state found counts it,
the report age, a settle and a step timer no further than their ends, and the others stay: the report age, crank, heater
phase, flame-out, dry, idle, frame, save, scan and settle timers, travel, grant wait, reversal and the WAIT step timer. Each
timer's expiry joins the queue exactly where the timer runs and then stands at its limit or past it. The blocks without such
a timer stay. Without supply nothing passes (log entry 9). -/
def Obligations.IdleStepPassesTime : Prop :=
  ∀ s : State, s.pending = [] →
    (s.powered = false → step s = .next s)
    ∧ (s.powered = true → ∃ t, step s = .next t
        ∧ (let cranking := s.drive.state = .cranking
          let phased := s.heater.state = .purge ∨ ((s.heater.state = .glow ∨ s.heater.state = .ignite) ∧ ¬ cranking)
          let flaming := s.heater.state = .run ∧ s.heater.flameRunning = true
          let dryLimit := if s.tanks.fresh.step = some 0 then 20000 else 120000
          t.drive.age = (if s.drive.reported then min 600000 (s.drive.age + 1) else s.drive.age)
          ∧ (.reportStaleness ∈ t.pending ↔ s.drive.state ≠ .unknown ∧ 5000 ≤ t.drive.age)
          ∧ t.drive.crankTimer = (if cranking then s.drive.crankTimer + 1 else s.drive.crankTimer)
          ∧ (.crankLong ∈ t.pending ↔ cranking ∧ 15000 ≤ t.drive.crankTimer)
          ∧ t.heater.phase = (if phased then s.heater.phase + 1 else s.heater.phase)
          ∧ (.glowEnd ∈ t.pending ↔ s.heater.state = .glow ∧ ¬ cranking ∧ 45000 ≤ t.heater.phase)
          ∧ (.failedStart ∈ t.pending ↔ s.heater.state = .ignite ∧ ¬ cranking ∧ 90000 ≤ t.heater.phase)
          ∧ (.purgeEnd ∈ t.pending ↔ s.heater.state = .purge ∧ 120000 ≤ t.heater.phase)
          ∧ t.heater.flameTimer = (if flaming then s.heater.flameTimer + 1 else s.heater.flameTimer)
          ∧ (.flameOut ∈ t.pending ↔ flaming ∧ 20000 ≤ t.heater.flameTimer)
          ∧ t.water.dryTimer = (if s.water.pump = .running then s.water.dryTimer + 1 else s.water.dryTimer)
          ∧ (.dryLock ∈ t.pending ↔ s.water.pump = .running ∧ dryLimit ≤ t.water.dryTimer)
          ∧ t.sleep.idle = (if s.sleep.state = .sleepPending then s.sleep.idle + 1 else s.sleep.idle)
          ∧ (.parkedSleepEntry ∈ t.pending ↔ s.sleep.state = .sleepPending ∧ 60000 ≤ t.sleep.idle)
          ∧ t.light.frameTimer = (if s.sleep.state = .parkedSleep then s.light.frameTimer else s.light.frameTimer + 1)
          ∧ (.frameBoundary ∈ t.pending ↔ s.sleep.state ≠ .parkedSleep ∧ 10 ≤ t.light.frameTimer)
          ∧ t.saving = s.saving.map (fun j => { j with elapsed := j.elapsed + 1 })
          ∧ (.saveCompletion ∈ t.pending ↔ ∃ j, t.saving = some j ∧ 400 ≤ j.elapsed)
          ∧ (∀ k : TankId, let x := s.tanks.get k
            t.tanks.get k = { x with
                scanTimer := x.scanTimer + 1
                settleTime := if x.settle = .idle then min 50 x.settleTime else min 50 (x.settleTime + 1) }
              ∧ (.scanStart k ∈ t.pending ↔ x.scanPeriod ≤ x.scanTimer + 1))
          ∧ (∀ a : Actuator, let r := s.motionRec a
            let waits := r.activity = .waitGrant
              ∨ (r.activity = .reversing ∧ r.direction = some .deploy ∧ s.adm.entries[motorEntry].state ≠ .granted)
            t.motionRec a = { r with
                travel := if r.activity = .moving then r.travel + 1 else r.travel
                grantWait := if waits then r.grantWait + 1 else r.grantWait
                reversal := if r.activity = .reversing then r.reversal + 1 else r.reversal }
              ∧ (.reversalEnd a ∈ t.pending ↔ r.activity = .reversing ∧ 500 ≤ r.reversal + 1)
              ∧ (.grantWaitExpiry a ∈ t.pending ↔ r.activity = .waitGrant ∧ 30000 ≤ r.grantWait + 1)
              ∧ (.travelTime a ∈ t.pending ↔ r.activity = .moving ∧ r.limit * 100 ≤ r.travel + 1))
          ∧ (∀ r n, s.runner.run = some r → waitLimit s.settings r = some n →
            let m := min n (if cranking then r.timer else r.timer + 1)
            t.runner = { s.runner with run := some { r with timer := m } } ∧ (.waitStepExpiry ∈ t.pending ↔ ¬ cranking ∧ n ≤ m))
          ∧ (s.runner.run = none ∨ (∀ r, s.runner.run = some r → waitLimit s.settings r = none) →
            t.runner = s.runner ∧ .waitStepExpiry ∉ t.pending)
          ∧ t.drive = { s.drive with age := t.drive.age, crankTimer := t.drive.crankTimer }
          ∧ t.heater = { s.heater with phase := t.heater.phase, flameTimer := t.heater.flameTimer }
          ∧ t.water = { s.water with dryTimer := t.water.dryTimer } ∧ t.sleep = { s.sleep with idle := t.sleep.idle }
          ∧ t.light = { s.light with frameTimer := t.light.frameTimer }
          ∧ t.motion.holder = s.motion.holder ∧ t.motion.waiter = s.motion.waiter ∧ t.motion.awayRef = s.motion.awayRef
          ∧ t.account = s.account ∧ t.adm = s.adm ∧ t.frost = s.frost ∧ t.ports = s.ports ∧ t.settings = s.settings
          ∧ t.store = s.store ∧ t.restarting = s.restarting))

/-- Every command answers a next state in every state: the manual gives each an answer, an effect or no effect. -/
def Obligations.NoCommandStops : Prop := ∀ (c : Instr) (s : State), ∃ t, exec c s = .next t

/-- The state after reset meets every invariant below. The state before any supply has been seen is the one of log entries
3 and 4, and the class and rating that entries 1 and 2 show while OFF are those of log entry 8. -/
def Obligations.ResetMeetsInvariants : Prop :=
  State.reset.settingsValid ∧ State.reset.accountBounded ∧ State.reset.adm.sound ∧ State.reset.lvdEmpties
    ∧ State.reset.drainLocksPump ∧ State.reset.deploysParked ∧ State.reset.driverHeld ∧ State.reset.portsProper
    ∧ State.reset.sleepFollows

/-- R180, R181: whatever is written, set, saved or loaded, every working setting stays within its range and order. -/
def Obligations.SettingsStayValid : Prop :=
  ∀ s t : State, s.settingsValid → step s = .next t → t.settingsValid

/-- R10, R16, R23: with valid settings the charge stays within the capacity and SoC and SoC_eff within 0 to 1000, over every
step, rescales and corrections included. -/
def Obligations.ChargeStaysInCapacity : Prop :=
  ∀ s t : State, s.settingsValid → s.accountBounded → step s = .next t → t.accountBounded

/-- R54, R55, R66: with valid settings the load table keeps agreeing with its lists, outside disconnect nothing waits to resume,
no entry but lighting holds a grant without being GRANTED, S stays within B and D within F, over every step. -/
def Obligations.AdmissionKeepsItsLimits : Prop :=
  ∀ s t : State, s.settingsValid → s.adm.sound → step s = .next t → t.adm.sound

/-- R51, R55: in LVD the waiting queue is empty and the budget is 0, over every step. -/
def Obligations.DisconnectKeepsQueueEmpty : Prop :=
  ∀ s t : State, s.lvdEmpties → step s = .next t → t.lvdEmpties

/-- Section 4.5, R77, R83: whenever the drain is OPEN the pump is in FROST_LOCK, and only then, over every step. -/
def Obligations.OpenDrainKeepsPumpLocked : Prop :=
  ∀ s t : State, s.drainLocksPump → step s = .next t → t.drainLocksPump

/-- R125: outside PARKED every motion record is at rest or carries a stow, and a PAUSED record stands in CRANKING, over every
step. -/
def Obligations.NoDeployOutsideParked : Prop :=
  ∀ s t : State, s.deploysParked → step s = .next t → t.deploysParked

/-- R112: the one holder of the driver is the record in flight that does not wait for it, and nothing waits for a free
driver, over every step. -/
def Obligations.OneHolderOfTheDriver : Prop :=
  ∀ s t : State, s.deploysParked → s.driverHeld → step s = .next t → t.driverHeld

/-- R166, R171, R172: a DETACHED port stays empty, and a notice queue keeps one notice of each kind and only subscribed
kinds, over every step. -/
def Obligations.PortsStayProper : Prop :=
  ∀ s t : State, s.portsProper → step s = .next t → t.portsProper

/-- R187, R190: while any entry condition fails the part is AWAKE with the idle timer at 0 and the quiet-wake mark clear, and
while all hold it is not AWAKE, over every step. R187, R189, R190: a condition that fails within an event does so at once,
whatever the rest of the event makes of it: at a sample, as the account, the controller and the heater leave the part; and
where a CALL starts a routine, as it arrives or as a FRAME_SENT lets it be served. The part is then out of PARKED_SLEEP, the
idle timer at 0 and the mark clear. The order of a sample's blocks is that of log entry 10, and the acts of an event after
which the conditions are judged are those of log entry 22 (DEDUCED). -/
def Obligations.SleepFollowsItsConditions : Prop :=
  (∀ s t : State, s.sleepFollows → step s = .next t → t.sleepFollows)
  ∧ (∀ (x : Sample) (s : State), s.calm = true →
    (sleepReady (settle (sampleAdmitted x s)) = false ∨ sleepReady (heaterSample x (settle (sampleAdmitted x s))) = false) →
    ∃ t, exec (.sampleEvent x) s = .next t ∧ t.lapsed)
  ∧ ∀ (p : PortId) (tag number : Byte) (n : Fin 8) (s : State), p ≠ .vehicle → n.val = number.toNat →
    routineSteps s.settings n ≠ [] → s.runner.run = none →
    (s.open_ p = true → ∃ t, exec (.call p tag number) s = .next t ∧ t.lapsed)
    ∧ (s.calm = true → (s.ports.get p).slotA = some { frame := reqFrame .call tag [number], delivered := false } →
      (p = .panel → s.restarting = false) → ∀ f ∈ (s.ports.get p).sending, f.restart = false →
      ∃ t, exec (.frameSent p) s = .next t ∧ t.lapsed)

/-! ### Supply -/

/-- R4, R31, R35, R41, R69, R77, R102, R105, R113, R147, R151, R161, R182, R187: power-on of a part without supply loads the
store and gives every block its power-on values; the commands that wait stay. The class and rating that entries 1 and 2
show until a request are the model's (log entry 8). R182, R184: supply lost during a save leaves a store that fails its
check, so that the next power-on starts on the store defaults with the settings-defaulted flag set, the lines read as they
stand. The first frame boundary is a full period away (DESIGN CHOICE, log entry 36). SoC_eff used and F used stand at 0
(DESIGN CHOICE, log entry 41). -/
def Obligations.PowerOnResetsAndCutSaveDefaults : Prop :=
  (∀ (s : State) (j : SaveJob) (lines : Lines), s.powered = true → s.saving = some j →
    ∃ t u, exec .supplyLoss s = .next t ∧ t.powered = false ∧ t.saving = none ∧ t.store.good = false
      ∧ exec (.powerOn lines) t = .next u ∧ u.settings = .defaults ∧ u.defaulted = true ∧ u.store = t.store)
  ∧ ∀ (s : State) (lines : Lines), s.powered = false →
    ∃ t, exec (.powerOn lines) s = .next t ∧ t.powered = true ∧ t.store = s.store ∧ t.pending = s.pending
      ∧ t.settings = (if s.store.good then s.store.image else .defaults) ∧ t.defaulted = !s.store.good
      ∧ t.saving = none ∧ t.slowPeriod = false ∧ t.restarting = false
      ∧ t.account = .reset t.settings.battery ∧ t.adm = .reset t.settings ∧ t.light = .reset t.settings.light
      ∧ t.runner = .reset ∧ t.tanks = { fresh := .reset, grey := .reset, black := .reset }
      ∧ t.ports = { panel := .reset, remote := .reset, vehicle := .reset }
      ∧ t.drive.state = .unknown ∧ t.drive.reported = false ∧ t.drive.age = 0 ∧ t.drive.crankTimer = 0
      ∧ t.drive.crankLatch = false ∧ t.drive.crankLong = false ∧ t.drive.shore = lines.shore
      ∧ t.drive.inhibit = (t.settings.battery.chem == .lfp) ∧ t.drive.isrc = 0 ∧ t.drive.f = 0
      ∧ t.drive.shoreSource.enabled = (lines.shore && !t.drive.inhibit) ∧ t.drive.altSource.enabled = false
      ∧ t.drive.solarSource.enabled = !t.drive.inhibit
      ∧ t.water.pump = .frostLock ∧ t.water.lock = .frost ∧ t.water.demand = lines.pressure
      ∧ t.water.requested = false ∧ t.water.pulses = 0 ∧ t.water.drawn = 0 ∧ t.water.vEst = none
      ∧ t.frost.drainOpen = true ∧ t.frost.reason = .power ∧ t.frost.keep = false ∧ t.frost.water = none
      ∧ t.heater.state = .off ∧ t.heater.mode = .off ∧ t.heater.attempts = 0 ∧ t.heater.lockout = .none
      ∧ t.motion.holder = none ∧ t.motion.waiter = none ∧ t.motion.awayRef = .parked
      ∧ (t.motionRec .awning).activity = (if lines.awningStowed && lines.awningDeployed then .fault else .idle)
      ∧ (t.motionRec .step).activity = (if lines.stepStowed && lines.stepDeployed then .fault else .idle)
      ∧ t.sleep = { state := .awake, idle := 0, quietMark := false }

/-- R5, R31, R41, R69, R72, R74, R77, R102, R105, R113, R147, R151, R161, R183: a RESTART in flight takes effect: the settings
are the store's (or those of a save in flight); account, tanks, counters and switches are kept as each chapter says; every
entry is OFF but the hold of a CLOSED drain, the fan of a purge and lighting, which asks anew from its kept targets and is
given its floor alone; the heater purges or rests, its lockout kept; each motion is at rest, STOPPED where one was in flight;
every port is DETACHED. The class and rating that entries 1 and 2 then show while OFF are DESIGN CHOICE (log entry 8);
a reading kept over reloaded tank settings, a transmission cut off and the frame timer started anew are too (log entry 18). -/
def Obligations.RestartKeepsAndResets : Prop :=
  ∀ s : State, s.powered = true → s.settled = true → s.restarting = true →
    let set : Settings := match s.saving with
      | some j => j.snapshot
      | none => if s.store.good then s.store.image else .defaults
    let sum (level : Fin 12 → Nat) : Nat :=
      ((List.finRange 12).map fun i => (set.light.rated[i] * (level i * level i) + 65024) / 65025).sum
    let f := sum fun i => min s.light.channels[i].target set.light.night
    let d := sum fun i => s.light.channels[i].target
    let purged := s.heater.state = .glow ∨ s.heater.state = .ignite ∨ s.heater.state = .run ∨ s.heater.state = .purge
    ∃ t, exec .restartEffect s = .next t ∧ t.restarting = false ∧ t.powered = true ∧ t.pending = s.pending
      ∧ t.settings = set ∧ t.store = s.store ∧ t.saving = s.saving ∧ t.slowPeriod = false
      ∧ t.account = { s.account with restTimer := 0, syncTimer := 0, tempAbsence := 0, syncLatched := false }
      ∧ t.drive.state = .unknown ∧ t.drive.reported = false ∧ t.drive.isrc = 0 ∧ t.drive.f = 0
      ∧ t.drive.shore = s.drive.shore ∧ t.drive.inhibit = s.drive.inhibit
      ∧ (∀ k : TankId, t.tanks.get k = { s.tanks.get k with
          settle := .settling, settleTime := 0, scanTimer := 0, scanPeriod := 10000 })
      ∧ t.water.pulses = s.water.pulses ∧ t.water.drawn = s.water.drawn ∧ t.water.vEst = s.water.vEst
      ∧ t.water.pump = (if s.frost.drainOpen then .frostLock else .disabled) ∧ t.water.requested = false
      ∧ t.frost = { s.frost with keep := false }
      ∧ t.heater.mode = .off
      ∧ t.heater.state = (if purged then .purge else if s.heater.state = .lockout then .lockout else .off)
      ∧ t.heater.attempts = (if s.heater.state = .lockout then s.heater.attempts else 0)
      ∧ t.heater.lockout = s.heater.lockout
      ∧ (purged → s.heater.state ≠ .purge → t.heater.reason = .restart ∧ t.heater.phase = 0)
      ∧ (s.heater.state = .purge → t.heater.reason = s.heater.reason ∧ t.heater.phase = s.heater.phase)
      ∧ (∀ a : Actuator, t.motionRec a =
          let r := s.motionRec a
          let conflict := r.stowedSw && r.deployedSw
          { MotionRec.reset with
            stowedSw := r.stowedSw, deployedSw := r.deployedSw
            activity := if conflict then .fault else .idle, fault := if conflict then .switchConflict else .none
            result := if r.inFlight then .stopped else r.result })
      ∧ t.motion.holder = none ∧ t.motion.waiter = none ∧ t.motion.awayRef = .parked
      ∧ t.adm.lvd = false ∧ t.adm.resume = [] ∧ t.adm.budget = 0 ∧ t.adm.queue = (if f < d then [5] else [])
      ∧ t.adm.granted = (if 0 < d ∧ f = d then [5] else []) ∧ t.adm.floorGrant = f ∧ t.adm.elasticWanted = d - f
      ∧ (∀ e : Fin 20, t.adm.entries[e] =
          let off := Entry.reset set e
          if e = 0 ∧ s.frost.drainOpen = false then
            { cls := .prot, rating := 30, state := .granted, grant := 30, pass := 0 }
          else if e = 2 ∧ purged then { cls := .prot, rating := 180, state := .granted, grant := 180, pass := 0 }
          else if e = 5 ∧ 0 < d then { off with rating := d, state := if f < d then .waiting else .granted }
          else off)
      ∧ t.light = { s.light with
          channels := vtab fun i => { s.light.channels[i] with zone := set.light.bounds.zoneOf i.val }
          rated := set.light.rated, night := set.light.night, askedFloor := f, askedElastic := d - f
          handedFloor := f, handedElastic := 0, forceFloor := 0, forceElastic := 0
          ports := { panel := .reset, remote := .reset, vehicle := .reset }, commits := [], frameTimer := 0 }
      ∧ t.runner.run = none ∧ t.runner.pendingCall = none
      ∧ (∀ r ∈ s.runner.run, t.runner.lastEnds[r.call.routine]
          = { kind := .cancelled, step := r.step, reason := .restart, caller := some r.call.caller })
      ∧ t.ports = { panel := .reset, remote := .reset, vehicle := .reset }
      ∧ t.sleep = { state := .awake, idle := 0, quietMark := false }

/-! ### The battery account -/

/-- R12: the usable capacity is C_nom x 3600 x k, a multiple of 36,000 and so of 1000 for every k of the tables; over 20 to
800 Ah it lies between 43,200,000 and 2,880,000,000, both reached; it is formed anew at a change of band, at a change of
C_nom or chemistry, and at power-on from the band that holds 0.0 degrees. -/
def Obligations.CapacityIsFormedFromTheBand : Prop :=
  (∀ c k, capacity c k = c * 3600 * k)
    ∧ (∀ (chem : Chemistry) (k : Nat), k ∈ bandFactors chem → ∀ c, 36000 ∣ capacity c k ∧ 1000 ∣ capacity c k)
    ∧ (∀ (chem : Chemistry) (k : Nat), k ∈ bandFactors chem → ∀ c, 20 ≤ c → c ≤ 800 →
        43200000 ≤ capacity c k ∧ capacity c k ≤ 2880000000)
    ∧ capacity 800 1000 = 2880000000 ∧ capacity 20 600 = 43200000
    ∧ (∀ (a : Account) (band : Nat), band ≠ a.band → (a.toBand band).ct = a.cnom * 3600 * bandFactor a.chem band)
    ∧ (∀ (a : Account) (b : BatterySettings), ¬ (b.chem = a.chem ∧ b.cnom = a.cnom) →
        (a.takeSettings b).ct = b.cnom * 3600 * bandFactor b.chem (a.takeSettings b).band)
    ∧ (∀ b : BatterySettings, (Account.reset b).ct = b.cnom * 3600 * bandFactor b.chem (bandContaining b.chem 0))

/-- R13's hysteresis: from any band of the chemistry's table a temperature below the band's lower boundary moves it to the
band that holds the temperature; one at least 1.0 degree above the next warmer band's lower boundary moves it warmer;
any other leaves it. R15: a change of band rescales the charge by the ratio of the capacities, rounded down: a full account
stays full, an empty one empty, and neither calibration nor a timer changes. -/
def Obligations.BandMovesAndRescales : Prop :=
  (∀ (chem : Chemistry) (band : Nat) (temp : Int), band ≤ (bandLowers chem).length →
    movedBand chem band temp =
      (match (bandLowers chem)[band]? with
        | some lower =>
          if temp < lower then bandContaining chem temp
          else if band ≠ 0 ∧ bandContaining chem (temp - 10) < band then bandContaining chem (temp - 10) else band
        | none => if band ≠ 0 ∧ bandContaining chem (temp - 10) < band then bandContaining chem (temp - 10) else band))
  ∧ ∀ (a : Account) (band : Nat), band ≠ a.band → 0 < a.ct →
    (a.toBand band).q = a.q * (a.toBand band).ct / a.ct
    ∧ (a.q = a.ct → (a.toBand band).q = (a.toBand band).ct) ∧ (a.q = 0 → (a.toBand band).q = 0)
    ∧ (a.toBand band).calibrated = a.calibrated ∧ (a.toBand band).restTimer = a.restTimer
    ∧ (a.toBand band).syncTimer = a.syncTimer

/-- R2, R9, R10, R16, R23: a sample in a battery whose settings stand counts its current over the period into the charge, a
conversion beyond the channel's end as SATURATED at that end, clamps the charge, and forms SoC and SoC_eff anew; above 20
cA it clears the rest timer unless CRANKING (R17). With voltage and temperature ABSENT the rest timer is held and the
full-sync timer cleared. R13, R15, R17, R20: with both VALID the band is moved first, and the charge counted in the
capacity of the band then in force; the rest timer and the full-sync timer advance by the period by their rows, here
short of their limits. -/
def Obligations.SampleCountsCharge : Prop :=
  ∀ (x : Sample) (s : State) (j : Int), s.powered = true → s.account.estimated = true →
    s.settings.battery.chem = s.account.chem → s.settings.battery.cnom = s.account.cnom → x.battI = some j →
    let bat := s.settings.battery
    let i := max (-30000) (min 30000 j)
    let validI : Validity := if j < -30000 ∨ 30000 < j then .saturated else .valid
    let r := i.natAbs * s.period / 100
    let counted (a : Account) : Account :=
      let q := if i < 0 then min a.ct (a.q - r) else min a.ct (a.q + r * bat.eta / 1000)
      let soc := q * 1000 / a.ct
      { a with
        q := q, soc := soc, socEff := if s.account.calibrated then soc else soc - 100, lastI := i, validI := validI }
    let rest (n : Nat) : Nat := if s.drive.state = .cranking then s.account.restTimer else if 20 < i.natAbs then 0 else n
    (x.battV = none → x.tBattery = none → s.account.tempAbsence + s.period < 60000 →
      ∃ t, exec (.sampleEvent x) s = .next t ∧ t.account = { counted s.account with
        restTimer := rest s.account.restTimer, syncTimer := 0, syncLatched := false
        tempAbsence := s.account.tempAbsence + s.period, validV := .absent, validT := .absent })
    ∧ ∀ v temp : Int, x.battV = some v → 8000 ≤ v → v ≤ 17000 → x.tBattery = some temp → -400 ≤ temp → temp ≤ 850 →
      let holds := (bat.fullV : Int) ≤ v ∧ 0 < i ∧ i ≤ (bat.cnom : Int) * 2
      s.account.restTimer + s.period < bat.restTime * 1000 → s.account.syncTimer + s.period < 60000 →
      ∃ t, exec (.sampleEvent x) s = .next t ∧ t.account =
        { counted (s.account.toBand (movedBand bat.chem s.account.band temp)) with
          restTimer := rest (s.account.restTimer + s.period)
          syncTimer := if holds ∧ s.account.syncLatched = false then s.account.syncTimer + s.period else 0
          syncLatched := s.account.syncLatched && decide holds
          tempAbsence := 0, tempSeen := true, lastV := v, validV := .valid, lastT := temp, validT := .valid }

/-- R11, R23: with the estimate taken, a sample whose current is ABSENT leaves the charge, makes the account UNCALIBRATED and
clears both timers and the sync latch. R22: before the estimate a sample with a VALID voltage estimates the charge from it,
starts no timer and leaves the account UNCALIBRATED; one without leaves charge and SoC at 0. The band is held (T_BATTERY
ABSENT, R14) and the settings stand. -/
def Obligations.AbsentCurrentAndFirstVoltage : Prop :=
  ∀ (x : Sample) (s : State), s.powered = true →
    s.settings.battery.chem = s.account.chem → s.settings.battery.cnom = s.account.cnom →
    x.tBattery = none → s.account.tempAbsence + s.period < 60000 →
    (s.account.estimated = true → x.battI = none →
      ∃ t, exec (.sampleEvent x) s = .next t ∧ t.account.q = s.account.q ∧ t.account.ct = s.account.ct
        ∧ t.account.calibrated = false ∧ t.account.socEff = s.account.q * 1000 / s.account.ct - 100
        ∧ t.account.restTimer = 0 ∧ t.account.syncTimer = 0 ∧ t.account.syncLatched = false
        ∧ t.account.lastI = s.account.lastI ∧ t.account.validI = .absent)
    ∧ (s.account.estimated = false →
      (∀ v : Int, x.battV = some v → 8000 ≤ v → v ≤ 17000 →
        ∃ t, exec (.sampleEvent x) s = .next t ∧ t.account.estimated = true ∧ t.account.calibrated = false
          ∧ t.account.soc = socOcv s.settings.battery.ocv v
          ∧ t.account.q = socOcv s.settings.battery.ocv v * s.account.ct / 1000
          ∧ t.account.socEff = socOcv s.settings.battery.ocv v - 100
          ∧ t.account.restTimer = s.account.restTimer ∧ t.account.syncTimer = s.account.syncTimer)
      ∧ (x.battV = none →
        ∃ t, exec (.sampleEvent x) s = .next t ∧ t.account.estimated = false ∧ t.account.q = s.account.q
          ∧ t.account.soc = s.account.soc ∧ t.account.socEff = 0))

/-- R18, R19: the rest timer's expiry, on a sample that could have advanced it, blends the count with the open-circuit
estimate, rounded half up, calibrates the account and clears the timer; an LFP estimate from 151 to 949 only clears the
timer. R20, R24: the full-sync timer's expiry, on a sample that meets R20's conditions with no sync latched, fills the
account, calibrates and latches it and raises ACCOUNT_SYNC. R14, R15: the temperature absence limit, with T_BATTERY
ABSENT, takes the account to the band that holds 0.0 degrees, with its capacity and rescaled charge. On any other sample
nothing follows (log entry 5). That a command of its own uses the settings as they stand and forms SoC at once is DESIGN
CHOICE (log entry 32). -/
def Obligations.AccountTimersCorrectCharge : Prop :=
  ∀ s : State, s.calm = true →
    (let ocv := socOcv s.settings.battery.ocv s.account.lastV
    let w := s.settings.battery.weight
    let soc := (s.account.soc * (1000 - w) + ocv * w + 500) / 1000
    let resting := s.account.estimated = true ∧ s.account.validI ≠ .absent ∧ s.account.lastI.natAbs ≤ 20
      ∧ s.account.validV = .valid ∧ s.drive.state ≠ .cranking
    (resting → s.account.chem = .lead ∨ ocv ≤ 150 ∨ 950 ≤ ocv →
      exec .restCorrection s = .next (close (s.withAccount { s.account with
        q := soc * s.account.ct / 1000, soc := soc * s.account.ct / 1000 * 1000 / s.account.ct
        socEff := soc * s.account.ct / 1000 * 1000 / s.account.ct, calibrated := true, restTimer := 0 })))
    ∧ (resting → s.account.chem = .lfp → 150 < ocv → ocv < 950 →
      exec .restCorrection s = .next (close (s.withAccount { s.account with
        restTimer := 0, socEff := if s.account.calibrated then s.account.soc else s.account.soc - 100 })))
    ∧ (¬ resting → exec .restCorrection s = .next (close s)))
    ∧ (let holds := s.account.estimated = true ∧ s.account.syncLatched = false ∧ s.account.validV = .valid
      ∧ s.account.validI ≠ .absent ∧ (s.settings.battery.fullV : Int) ≤ s.account.lastV ∧ 0 < s.account.lastI
      ∧ s.account.lastI ≤ (s.account.cnom * 2 : Nat)
    (holds → 0 < s.account.ct →
      exec .fullChargeSync s = .next (close (raise .accountSync .account 0 (s.withAccount { s.account with
        q := s.account.ct, soc := 1000, socEff := 1000, calibrated := true, syncTimer := 0, syncLatched := true }))))
    ∧ (¬ holds → exec .fullChargeSync s = .next (close s)))
    ∧ (let band := bandContaining s.account.chem 0
    let k := bandFactor s.account.chem band
    let ct := s.account.cnom * 3600 * k
    let q := s.account.q * ct / s.account.ct
    let soc := q * 1000 / ct
    (s.account.validT = .absent → s.account.band ≠ band →
      exec .temperatureAbsenceLimit s = .next (close (s.withAccount { s.account with
        band := band, k := k, ct := ct, q := q, soc := soc, tempAbsence := 60000
        socEff := if s.account.estimated then (if s.account.calibrated then soc else soc - 100) else 0 })))
    ∧ (s.account.validT ≠ .absent → exec .temperatureAbsenceLimit s = .next (close s)))

/-! ### Drive state and charge paths -/

/-- R36, R37, R38, R1, R3: a sample sums the VALID source currents, moves F by the truncated eighth of its difference from the
sum, keeps each SOURCE record's current and validity and the outside temperature, and fixes the length of the period that
begins; it leaves tanks, store, a save in flight and the queue of commands. -/
def Obligations.SampleFiltersSources : Prop :=
  ∀ (x : Sample) (s : State), s.calm = true →
    let isrc := sourceTerm (readShore x) + sourceTerm (readAlt x) + sourceTerm (readSolar x)
    let takes (now was : Source) (r : Reading) : Prop :=
      now.current = r.value.getD was.current ∧ now.validity = r.validity
    ∃ t, exec (.sampleEvent x) s = .next t ∧ t.drive.isrc = isrc
      ∧ (t.drive.f : Int) = (s.drive.f : Int) + Int.tdiv ((isrc : Int) - (s.drive.f : Int)) 8
      ∧ takes t.drive.shoreSource s.drive.shoreSource (readShore x)
      ∧ takes t.drive.altSource s.drive.altSource (readAlt x)
      ∧ takes t.drive.solarSource s.drive.solarSource (readSolar x)
      ∧ t.drive.outside = (readTOutside x).value ∧ t.drive.state = s.drive.state
      ∧ t.slowPeriod = (s.sleep.state == .parkedSleep)
      ∧ t.tanks = s.tanks ∧ t.store = s.store ∧ t.saving = s.saving ∧ t.defaulted = s.defaulted
      ∧ t.restarting = s.restarting ∧ t.pending = s.pending

/-- R25: a DRIVE with a field out of its two values is refused RANGE and is no report; that it clears the quiet-wake mark is
DEDUCED (R190, log entry 27). R25, R26, R27, R33: one that is taken replaces the stored fields, the speed clamped to 250,
restarts the age, and a cranking NO clears latch and crank cause; the enables are judged again. R190: one that derives the
state in force returns a part with the mark set and every entry condition holding to PARKED_SLEEP. R30, R126, R127, R189: one
that changes the drive state is a wake cause and is handed on: motions pause into CRANKING and go on out of it, and the
reference is set; a drive-away marks a FAULT record, starts an AUTO stow of an IDLE one that is not STOWED and reverses
a MOVING deploy, DRIVE_AWAY raised once. The grant wait and reversal timers of a motor that starts to run stand at 0
(DESIGN CHOICE, log entry 31). -/
def Obligations.DriveReportTaken : Prop :=
  ∀ (tag ign eng crk hb : Byte) (speed : Half) (s : State), s.open_ .vehicle = true →
    let got := exec (.drive .vehicle tag ign eng crk hb speed) s
    let done (u : State) := Host.Outcome.next (ρ := Refusal) (φ := Fault) (concluded .vehicle .drive tag .done [] u)
    (1 < ign.toNat ∨ 1 < eng.toNat ∨ 1 < crk.toNat ∨ 1 < hb.toNat →
      got = .next (concluded .vehicle .drive tag .range [] (s.withSleep { s.sleep with quietMark := false })))
    ∧ (ign.toNat ≤ 1 → eng.toNat ≤ 1 → crk.toNat ≤ 1 → hb.toNat ≤ 1 →
      let latch := s.drive.crankLatch && crk == 1
      let d : DriveSide := { s.drive with
        ignition := ign == 1, engine := eng == 1, cranking := crk == 1, handbrake := hb == 1
        speed := min 250 speed.toNat, reported := true, age := 0, crankLatch := latch
        crankLong := s.drive.crankLong && crk == 1 }
      let old := s.drive.state
      let new : DriveState := if ign = 0 then .parked
        else if crk = 1 ∧ latch = false then .cranking
        else if 0 < speed.toNat ∨ hb = 0 then .moving else .ready
      let kept := s.withDrive d.judge
      let changed := s.withDrive ({ d with state := new, crankTimer := 0 } : DriveSide).judge
      let put (recs : PerActuator MotionRec) : State :=
        changed.withMotion { s.motion with recs := recs, awayRef := new }
      let away := new ≠ .parked ∧ (old = .parked ∨ (old = .unknown ∧ s.motion.awayRef = .parked))
      let stowed (r : MotionRec) : Prop := r.activity = .idle ∧ r.stowedSw = true ∧ r.deployedSw = false
      (new = old → got = done (if s.sleep.quietMark && sleepReady kept then
        kept.withSleep { state := .parkedSleep, idle := 0, quietMark := false } else kept))
      ∧ (new ≠ old → ¬ away →
        let follow (r : MotionRec) : MotionRec :=
          if old = .cranking ∧ r.activity = .paused then { r with activity := .moving, stallTimer := 0, surge := true }
          else if new = .cranking ∧ r.activity = .moving then { r with activity := .paused, stallTimer := 0 } else r
        got = done (wakeCause (put { awning := follow s.motion.recs.awning, step := follow s.motion.recs.step })))
      ∧ (new ≠ old → away →
        (let marked (r : MotionRec) : MotionRec := { r with mark := if r.activity = .fault then .inFault else .none }
        let u := put { awning := marked s.motion.recs.awning, step := marked s.motion.recs.step }
        (∀ a, stowed (s.motionRec a) ∨ (s.motionRec a).activity = .fault) →
          got = done (wakeCause (if (s.motionRec .awning).activity = .fault then raise .driveAway .motion 0 u
            else if (s.motionRec .step).activity = .fault then raise .driveAway .motion 1 u else u)))
        ∧ ∀ a : Actuator, stowed (s.motionRec (otherActuator a)) →
          let r := s.motionRec a
          let o : MotionRec := { s.motionRec (otherActuator a) with mark := .none }
          let begun : MotionRec := { r.begun .stow .auto (s.settings.motion a).travelLimit with mark := .stowing }
          let told (x : MotionRec) : State :=
            raise .driveAway .motion (actuatorIndex a) ((changed.withMotion { s.motion with
              recs := (s.motion.recs.set a x).set (otherActuator a) o, holder := some a, awayRef := new }).withAdm
                (s.adm.entryGranted motorEntry .prot (motorRating a)))
          (r.activity = .idle → r.stowedSw = false → s.motion.holder = none → s.adm.entries[motorEntry].state = .off →
            s.adm.uncounted motorEntry = true → got = done (wakeCause (told (begun.running new))))
          ∧ (r.activity = .moving → r.direction = some .deploy → r.requester ≠ some .routine → r.atEnd .stow = false →
            s.motion.holder = some a → s.passiveBut motorEntry = true → s.adm.entries[motorEntry].cls = .comfort →
            got = done (wakeCause (told
              { begun with activity := .reversing, surge := false, grantWait := 0, reversal := 0 })))))

/-- R27, R30, R33, R126: the crank limit reached in CRANKING makes the drive state READY with cause CRANK_LONG, latch set and
timer 0, judges the enables, and sets each PAUSED motion running again. R28, R33: a report age of five seconds outside
UNKNOWN makes the drive state UNKNOWN with the enables judged again and the stored fields kept; out of CRANKING each
PAUSED motion runs again (R126), and out of PARKED a deploy in flight is stopped INTERLOCK (R128), its grant wait and
reversal timers then at 0 (DESIGN CHOICE, log entry 31). A timer short of its limit, restarted by a report taken first, has
no expiry; in another drive state nothing follows (log entry 5). -/
def Obligations.DriveTimersChangeState : Prop :=
  ∀ s : State, s.calm = true →
    let go (r : MotionRec) : MotionRec :=
      if r.activity = .paused then { r with activity := .moving, stallTimer := 0, surge := true } else r
    let running : PerActuator MotionRec := { awning := go s.motion.recs.awning, step := go s.motion.recs.step }
    let stale := s.withDrive ({ s.drive with state := .unknown, crankTimer := 0 } : DriveSide).judge
    let deploys (a : Actuator) := (s.motionRec a).inFlight = true ∧ (s.motionRec a).direction = some .deploy
    (s.drive.state = .cranking → 15000 ≤ s.drive.crankTimer →
      exec .crankLong s = .next (close
        ((s.withDrive ({ s.drive with state := .ready, crankTimer := 0, crankLong := true, crankLatch := true } :
            DriveSide).judge).withMotion { s.motion with recs := running, awayRef := .ready })))
    ∧ (s.drive.state ≠ .cranking ∨ s.drive.crankTimer < 15000 → exec .crankLong s = .next (close s))
    ∧ (5000 ≤ s.drive.age →
      (s.drive.state = .ready ∨ s.drive.state = .moving → exec .reportStaleness s = .next (close stale))
      ∧ (s.drive.state = .cranking →
        exec .reportStaleness s = .next (close (stale.withMotion { s.motion with recs := running })))
      ∧ (s.drive.state = .parked → ¬ deploys .awning → ¬ deploys .step → exec .reportStaleness s = .next (close stale))
      ∧ (s.drive.state = .parked → ∀ a, deploys a → ¬ deploys (otherActuator a) → s.aloneAt a = true →
        exec .reportStaleness s = .next (close (stale.ended a .idle .none .interlock))))
    ∧ (s.drive.state = .unknown ∨ s.drive.age < 5000 → exec .reportStaleness s = .next (close s))

/-- R32, R33: a change of the shore-present line is recorded, the enables are judged again, SHORE by the line and the inhibit,
and the change is a wake cause. R34, R33: an LFP battery without its temperature past 60 s is inhibited with cause NO_SENSOR:
all three paths are disabled, and CHARGE_INHIBIT is raised where the inhibit was clear; else nothing follows (log entry
5). -/
def Obligations.ShoreAndLostSensorJudgeEnables : Prop :=
  ∀ (active : Bool) (s : State), s.calm = true →
    (∃ d : DriveSide, exec (.shorePresentChange active) s = .next (close (wakeCause (s.withDrive d)))
      ∧ d.shore = active ∧ d.state = s.drive.state ∧ d.f = s.drive.f ∧ d.inhibit = s.drive.inhibit
      ∧ d.shoreSource.enabled = (active && !s.drive.inhibit)
      ∧ d.shoreSource.cause = (if s.drive.inhibit then .inhibit else if active then .none else .noShore)
      ∧ d.shoreSource.current = s.drive.shoreSource.current
      ∧ d.solarSource.enabled = !s.drive.inhibit
      ∧ d.altSource.enabled =
          (s.drive.engine && (s.drive.state == .ready || s.drive.state == .moving) && !s.drive.inhibit))
    ∧ (s.drive.chem = .lfp → s.account.validT = .absent →
      ∃ d : DriveSide, exec .inhibitNoSensor s
          = .next (close (if s.drive.inhibit then s.withDrive d else raise .chargeInhibit .drive 0 (s.withDrive d)))
        ∧ d.inhibit = true ∧ d.inhibitCause = .noSensor ∧ 60000 < d.inhibitAbsence
        ∧ d.shoreSource.enabled = false ∧ d.altSource.enabled = false ∧ d.solarSource.enabled = false
        ∧ d.solarSource.cause = .inhibit ∧ d.state = s.drive.state ∧ d.f = s.drive.f)
    ∧ (s.drive.chem = .lead ∨ s.account.validT ≠ .absent → exec .inhibitNoSensor s = .next (close s))

/-! ### Admission -/

/-- R50, R51, R52, R54, R63: a budget event on a load table that is sound advances or clears the disconnect timers from the
sample's voltage, enters or leaves LVD where one is full, forms f, B and the band from the account and F, and leaves S
within B and D within F. R47: the one change of grant that a sample's budget event makes is handed to its owner, the blocks
after it having nothing to do. R91, R92: GRANTED takes WAIT_GRANT to GLOW, and SHED takes GLOW back. R99: LVD of entry 3 in
GLOW, or of entry 2 in IGNITE or RUN, purges with reason LVD in the mode OFF, or FROST_KEEP with the flag set, and raises
HEATER. R80: GRANTED runs a READY pump whose demand is ACTIVE, and LVD makes a RUNNING one READY, entry 4 still requested.
R118: GRANTED runs the deploy in WAIT_GRANT, and ends the wait of one that is REVERSING. R124: SHED and LVD stop a running
deploy with that result, the driver passing to a waiting stow, and MOTION is raised. The grant wait and reversal timers that
these leave at 0 are DESIGN CHOICE (log entry 31). R144: lighting records the grants handed. The others act on none. The
order of the blocks is that of log entry 10. -/
def Obligations.BudgetEventFormsBudget : Prop :=
  (∀ (x : Sample) (s : State), s.settingsValid → s.adm.sound →
    let b := (budgetEvent x s).adm
    let bat := s.settings.battery
    let soc := s.account.socEff
    let factor := if s.account.estimated = false then 0
      else if bat.comfort ≤ soc then 1000
      else if soc ≤ bat.reserve then 0
      else (soc - bat.reserve) * 1000 / (bat.comfort - bat.reserve)
    let frozen := s.drive.state = .cranking
    let entry := match readBattV x with
      | .valid v => if frozen then s.adm.entryTimer
          else if v < bat.vLvd then s.adm.entryTimer + s.period else 0
      | _ => s.adm.entryTimer
    let exit := match readBattV x with
      | .valid v => if frozen then s.adm.exitTimer
          else if (bat.vLvd : Int) + 800 ≤ v then s.adm.exitTimer + s.period else 0
      | _ => s.adm.exitTimer
    b.factor = factor ∧ b.socUsed = soc ∧ b.fUsed = s.drive.f
    ∧ b.band = (if factor = 1000 then .opened else if factor = 0 then .closed else .taper)
    ∧ b.lvd = (if s.adm.lvd then decide (exit < 60000) else decide (30000 ≤ entry))
    ∧ b.budget = (if b.lvd then 0 else min s.settings.bcap (s.settings.bmax * factor / 1000 + s.drive.f))
    ∧ (s.adm.lvd = false → b.lvd = false → b.entryTimer = entry)
    ∧ (s.adm.lvd = true → b.lvd = true → b.exitTimer = exit)
    ∧ (s.adm.lvd ≠ b.lvd → b.entryTimer = 0 ∧ b.exitTimer = 0)
    ∧ b.sumS ≤ b.budget ∧ b.sumD ≤ b.fUsed)
  ∧ ∀ (x : Sample) (s : State) (g : GrantChange), s.calm = true → s.frostPassive x = true →
    let u := sampleAdmitted x s
    u.adm.changes = [g] →
    let v := u.withAdm { u.adm with changes := [] }
    let leaves (b : State) : Prop :=
      ∃ t, exec (.sampleEvent x) s = .next t
        ∧ t.heater = b.heater.takingCabin s.period (readTCabin x).value ∧ t.water = b.water ∧ t.motion = b.motion
        ∧ t.adm = b.adm ∧ t.light.handedFloor = b.light.handedFloor ∧ t.light.handedElastic = b.light.handedElastic
        ∧ t.ports = (transmitAll b).ports
    let granted := g.cause = .granted ∧ v.adm.entries[g.entry].state = .granted
    (s.motion.holder.all (fun a => !(s.motionRec a).watched) = true →
      (g.entry = glowEntry → s.frostQuiet = true →
        (granted → s.heater.state = .waitGrant → leaves (v.withHeater (v.heater.entering .glow)))
        ∧ (g.cause = .shed → s.heater.state = .glow → leaves (v.withHeater (v.heater.entering .waitGrant))))
      ∧ (g.cause = .lvd →
        (g.entry = glowEntry ∧ s.heater.state = .glow)
          ∨ (g.entry = fanEntry ∧ (s.heater.state = .ignite ∨ s.heater.state = .run)) →
        v.purgeReady = true →
        leaves (raise .heater .heater 0 ((v.withHeater { v.heater.entering .purge with
          reason := .lvd, mode := if s.frost.keep then .frostKeep else .off }).withAdm v.adm.purging)))
      ∧ (s.heaterPassive = true → g.entry = pumpEntry →
        (granted → s.water.pump = .ready → s.water.requested = true → s.water.demand = true →
          leaves (v.withWater { v.water with pump := .running, dryTimer := 0 }))
        ∧ (g.cause = .lvd → s.water.pump = .running →
          leaves (v.withWater { v.water with pump := .ready, dryTimer := 0 })))
      ∧ (s.heaterPassive = true → g.entry = lightEntry →
        leaves (v.withLight { v.light with handedFloor := g.floor, handedElastic := g.amount }))
      ∧ (s.heaterPassive = true → g.entry = holdEntry ∨ 6 ≤ g.entry.val → leaves v))
    ∧ (s.heaterPassive = true → g.entry = motorEntry → ∀ a, s.motion.holder = some a →
      let r := v.motionRec a
      (granted → r.activity = .waitGrant → leaves (v.setRec a ({ r with travel := 0 }.running s.drive.state)))
      ∧ (granted → r.activity = .reversing → leaves (v.setRec a { r with grantWait := 0 }))
      ∧ ∀ res, (g.cause = .shed ∧ res = .shed) ∨ (g.cause = .lvd ∧ res = .lvd) →
        r.direction = some .deploy → r.activity = .moving ∨ r.activity = .reversing →
        (v.aloneAt a = true → leaves (v.ended a .idle .none res))
        ∧ ∀ b, v.handsOver a b = true → leaves (v.passedOn a b .idle .none res))

/-- R56: an entry of the queue other than lighting fits under R56's tests with B, S, D and F as they stand; one that fits is
granted at its rating, leaves the queue and joins the granted list's tail, S rising by the rating and, for a DEFERRABLE
entry, D too. -/
def Obligations.FittingEntryIsGranted : Prop :=
  ∀ (a : Adm) (e : Fin 20) (rest : List (Fin 20)), e ≠ lightEntry →
    a.entries[e].cls = .comfort ∨ a.entries[e].cls = .deferrable → a.entries[e].grant = 0 →
    let b := a.grantQueued e
    (a.fits e = true ↔
      (a.entries[e].rating : Int) + 200 ≤ (a.budget : Int) - a.sumS
        ∧ (a.entries[e].cls = .deferrable → (a.entries[e].rating : Int) ≤ (a.fUsed : Int) - a.sumD))
    ∧ (a.fits e = true → Adm.walk (e :: rest) a = Adm.walk rest b)
    ∧ b.entries[e] = { a.entries[e] with state := .granted, grant := a.entries[e].rating, pass := 0 }
    ∧ (∀ d, d ≠ e → b.entries[d] = a.entries[d])
    ∧ b.queue = a.queue.erase e ∧ b.granted = a.granted ++ [e] ∧ b.budget = a.budget ∧ b.fUsed = a.fUsed
    ∧ b.sumS = a.sumS + a.entries[e].rating
    ∧ b.sumD = (if a.entries[e].cls = .deferrable then a.sumD + a.entries[e].rating else a.sumD)

/-- R57: a pass over a queue no entry of which fits raises each pass count by one, at most to 4, up to and with the first that
reaches 4, the blocker, behind which it changes nothing. R59: what a pass grants lighting as it reaches it: the whole of its
request where nothing is missing, else the lesser of what is missing and what 200 below B leaves, GRANTED where that completes
it and PARTIAL where not, and nothing where none is left; S is then at most B - 200. R47, R58: a lighting request sets the
floor at once; an elastic part no larger than its grant is GRANTED, handed CUT where it is lowered, a larger one waits in the
queue with its grant kept, and a pass follows, whatever else waits. That a change of the floor alone is handed as PARTIAL
while the elastic part stays short, and as GRANTED where it stood granted in full, is DESIGN CHOICE (log entry 13). -/
def Obligations.PassCountsAndLightsInParts : Prop :=
  (∀ (a : Adm) (front rest : List (Fin 20)), a.lvd = false → a.queue = front ++ rest → a.queue.Nodup → lightEntry ∉ front →
    (∀ e ∈ front, a.fits e = false) → (∀ e ∈ front, front.getLast? ≠ some e → a.entries[e].pass < 3) →
    (rest = [] ∨ ∃ e, front.getLast? = some e ∧ 3 ≤ a.entries[e].pass) →
    a.pass.queue = a.queue ∧ a.pass.granted = a.granted ∧ a.pass.sumS = a.sumS ∧ a.pass.sumD = a.sumD
      ∧ ∀ e : Fin 20, a.pass.entries[e] =
          if e ∈ front then { a.entries[e] with pass := min 4 (a.entries[e].pass + 1) } else a.entries[e])
  ∧ (∀ (a : Adm) (rest : List (Fin 20)), a.entries[lightEntry].counted = true →
    let x := a.entries[lightEntry]
    let missing := a.elasticWanted - x.grant
    let part := min missing (a.budget - a.sumS - 200)
    let raised (st : EntryState) (pass : Nat) (c : Cause) (b : Adm) : Adm :=
      { b.setEntry lightEntry { x with state := st, grant := x.grant + part, pass := pass } with
        changes := a.changes ++ [{ entry := lightEntry, cause := c, floor := a.floorGrant, amount := x.grant + part }] }
    let full : Adm := { a with
      queue := a.queue.erase lightEntry
      granted := if lightEntry ∈ a.granted then a.granted else a.granted ++ [lightEntry] }
    x.grant ≤ a.elasticWanted →
    (missing = 0 → Adm.walk (lightEntry :: rest) a = Adm.walk rest (raised .granted 0 .granted full))
    ∧ (0 < missing → part = 0 → Adm.walk (lightEntry :: rest) a = Adm.walk rest a)
    ∧ (0 < part → part = missing → Adm.walk (lightEntry :: rest) a = Adm.walk rest (raised .granted 0 .granted full))
    ∧ (0 < part → part < missing → Adm.walk (lightEntry :: rest) a = Adm.walk rest (raised x.state x.pass .part a))
    ∧ (0 < part → (raised x.state x.pass .part a).sumS = a.sumS + part ∧ a.sumS + part + 200 ≤ a.budget))
  ∧ ∀ (a : Adm) (f e : Nat), a.lvd = false → ¬ (f = 0 ∧ e = 0) →
    let x := a.entries[lightEntry]
    let asked (st : EntryState) (grant : Nat) : Adm :=
      { a.setEntry lightEntry { x with rating := f + e, state := st, grant := grant, pass := 0 } with
        floorGrant := f, floorWanted := f, elasticWanted := e }
    let told (c : Cause) (grant : Nat) : List GrantChange :=
      a.changes ++ [{ entry := lightEntry, cause := c, floor := f, amount := grant }]
    (e ≤ x.grant → a.requestLighting f e = ({ asked .granted e with
      queue := a.queue.erase lightEntry
      granted := if lightEntry ∈ a.granted then a.granted else a.granted ++ [lightEntry]
      changes := told (if e < x.grant then .cut else .granted) e } : Adm).pass)
    ∧ (x.grant < e → a.requestLighting f e = ({ asked .waiting x.grant with
      granted := a.granted.erase lightEntry
      queue := if lightEntry ∈ a.queue then a.queue else a.queue ++ [lightEntry]
      changes := if a.floorGrant = f then a.changes else told .part x.grant } : Adm).pass)

/-- R60, R61, R62: where S passes B or D passes F, the shed pass takes the granted DEFERRABLE entries, the latest granted first,
while either sum is over its limit, and then the COMFORT entries that hold a grant, the highest rank number first, while S is
over B, and no more than that. Each entry taken is SHED with its grant and pass count at 0, lighting cut to its floor, and
joins the head of the queue as it is taken; S and D then lie within their limits. The pass counts that the admission pass of
the same event raises come after it. -/
def Obligations.ShedPassTakesInOrder : Prop :=
  ∀ (a : Adm) (t : Settings) (comfort : List (Fin 20)),
    a.queue.Nodup → a.granted.Nodup →
    (∀ e, classFits e a.entries[e].cls) →
    (∀ e, e ∈ a.granted ↔ (a.entries[e].counted = true ∧ a.entries[e].state = .granted)) →
    (∀ e, a.entries[e].counted = true → 0 < a.entries[e].grant → e ∈ a.granted ∨ (e = lightEntry ∧ e ∈ a.queue)) →
    comfort.Pairwise (fun d e => ((t.rank e).getD 0) < ((t.rank d).getD 0)) →
    (∀ e, e ∈ comfort ↔ (a.entries[e].cls = .comfort
      ∧ (if e = lightEntry then 0 < a.entries[e].grant else a.entries[e].state = .granted))) →
    (∀ e ∈ comfort, 1 ≤ (t.rank e).getD 0 ∧ (t.rank e).getD 0 ≤ 20) →
    let order := a.granted.reverse.filter (fun e => a.entries[e].cls == .deferrable) ++ comfort
    let b := (a.shedPass t).1
    let shed := (a.shedPass t).2
    let leftS (l : List (Fin 20)) : Nat := a.sumS - (l.map fun e => a.entries[e].grant).sum
    let leftD (l : List (Fin 20)) : Nat :=
      a.sumD - (l.map fun e => if a.entries[e].cls = .deferrable then a.entries[e].grant else 0).sum
    (a.sumS ≤ a.budget → a.sumD ≤ a.fUsed → shed = [] ∧ b = a)
    ∧ (∃ n, shed = order.take n)
    ∧ (∀ l e, shed = l ++ [e] → a.budget < leftS l ∨ (a.fUsed < leftD l ∧ a.entries[e].cls = .deferrable))
    ∧ b.sumS = leftS shed ∧ b.sumD = leftD shed ∧ b.sumS ≤ b.budget ∧ b.sumD ≤ b.fUsed
    ∧ b.budget = a.budget ∧ b.fUsed = a.fUsed ∧ b.floorGrant = a.floorGrant
    ∧ b.queue = shed.reverse ++ a.queue.filter (fun e => !shed.contains e)
    ∧ b.granted = a.granted.filter (fun e => !shed.contains e)
    ∧ ∀ e : Fin 20, b.entries[e] =
        if e ∈ shed then { a.entries[e] with state := .shed, grant := 0, pass := 0 } else a.entries[e]

/-- R64: the LVD entry timer's expiry in NORMAL, outside CRANKING, where only general outputs hold or await a grant that
disconnect takes and the band stays: the granted list and then the queue become the resume list, each entry WAITING
without a grant; every GRANTED ESSENTIAL entry becomes WAITING; every PROTECTED one stays; B is 0; LVD is raised. That
the command runs the rest of its budget event, F and the band with it, is DEDUCED (log entry 24). In LVD or CRANKING nothing
follows (log entry 5). -/
def Obligations.DisconnectWithdrawsGrants : Prop :=
  ∀ s : State, s.calm = true →
    (s.adm.lvd = false → s.drive.state ≠ .cranking → s.adm.sound → s.adm.floorGrant = 0 →
      bandOf (taper s.account.estimated s.account.socEff s.settings.battery.comfort s.settings.battery.reserve)
        = s.adm.band →
      (∀ e : Fin 20, e.val < 7 →
        ¬ (e ∈ s.adm.granted ∨ e ∈ s.adm.queue ∨ (s.adm.entries[e].state = .granted ∧ s.adm.entries[e].cls = .essential))) →
      ∃ a : Adm, exec .lvdEntry s = .next (close (raise .lvd .budget 0 (s.withAdm a)))
        ∧ a.lvd = true ∧ a.queue = [] ∧ a.granted = [] ∧ a.resume = s.adm.granted ++ s.adm.queue ∧ a.budget = 0
        ∧ a.entryTimer = 0 ∧ a.exitTimer = 0 ∧ a.floorGrant = 0 ∧ a.floorWanted = s.adm.floorWanted
        ∧ a.elasticWanted = s.adm.elasticWanted ∧ a.band = s.adm.band ∧ a.fUsed = s.drive.f ∧ a.changes = []
        ∧ ∀ e : Fin 20, a.entries[e] =
            if e ∈ s.adm.granted ∨ e ∈ s.adm.queue
                ∨ (s.adm.entries[e].state = .granted ∧ s.adm.entries[e].cls = .essential)
              then { s.adm.entries[e] with state := .waiting, grant := 0, pass := 0 } else s.adm.entries[e])
    ∧ (s.adm.lvd = true ∨ s.drive.state = .cranking → exec .lvdEntry s = .next (close s))

/-- R66: the exit from disconnect makes the resume list the queue in its order with pass counts 0 and grants each held
ESSENTIAL entry at its rating. At the LVD exit timer's expiry, outside CRANKING, where nothing waits to resume, only
general outputs are held, lighting is OFF and the band stays, that is the whole event: B is formed anew, by R51 from
the account and F, and LVD is raised; that the command runs the rest of its budget event is DEDUCED (log entry 24). In
NORMAL or CRANKING nothing follows (log entry 5). -/
def Obligations.DisconnectExitRestores : Prop :=
  (∀ a : Adm, a.exitLvd.lvd = false ∧ a.exitLvd.queue = a.resume ∧ a.exitLvd.resume = []
      ∧ a.exitLvd.entryTimer = 0 ∧ a.exitLvd.exitTimer = 0
      ∧ ∀ e ∈ a.resume, a.exitLvd.entries[e].pass = 0)
    ∧ ∀ s : State, s.calm = true →
      (s.adm.lvd = true → s.drive.state ≠ .cranking → s.adm.sound → s.adm.resume = [] →
        s.adm.entries[lightEntry].state = .off →
        bandOf (taper s.account.estimated s.account.socEff s.settings.battery.comfort s.settings.battery.reserve)
          = s.adm.band →
        (∀ e : Fin 20, e.val < 7 → ¬ (s.adm.entries[e].state = .waiting ∧ s.adm.entries[e].cls = .essential)) →
        ∃ a : Adm, exec .lvdExit s = .next (close (raise .lvd .budget 0 (s.withAdm a)))
          ∧ a.lvd = false ∧ a.queue = [] ∧ a.granted = [] ∧ a.resume = [] ∧ a.entryTimer = 0 ∧ a.exitTimer = 0
          ∧ a.factor = (if s.account.estimated = false then 0
              else if s.settings.battery.comfort ≤ s.account.socEff then 1000
              else if s.account.socEff ≤ s.settings.battery.reserve then 0
              else (s.account.socEff - s.settings.battery.reserve) * 1000
                / (s.settings.battery.comfort - s.settings.battery.reserve))
          ∧ a.budget = min s.settings.bcap (s.settings.bmax * a.factor / 1000 + s.drive.f) ∧ a.band = s.adm.band
          ∧ a.fUsed = s.drive.f ∧ a.changes = []
          ∧ ∀ e : Fin 20, a.entries[e] =
              if s.adm.entries[e].state = .waiting ∧ s.adm.entries[e].cls = .essential
                then { s.adm.entries[e] with state := .granted, grant := s.adm.entries[e].rating, pass := 0 }
                else s.adm.entries[e])
      ∧ (s.adm.lvd = false ∨ s.drive.state = .cranking → exec .lvdExit s = .next (close s))

/-- R48, R43, R44, R45: LOAD_SET refuses RANGE and then ROLE; ON for an entry that is not OFF and OFF for one that is change
nothing; OFF releases; ON requests the entry in its class and rating settings: ESSENTIAL granted at once in NORMAL and
held in LVD, a counted class granted where nothing waits and it fits, and at the resume list's tail in LVD. That RANGE comes
before ROLE, for an entry from 0 to 6 named with another switch value, is DESIGN CHOICE (log entry 47). -/
def Obligations.LoadSetSwitchesOutput : Prop :=
  ∀ (p : PortId) (tag entry sw : Byte) (s : State), s.open_ p = true → p ≠ .vehicle →
    (19 < entry.toNat ∨ 1 < sw.toNat →
      exec (.loadSet p tag entry sw) s = .next (concluded p .loadSet tag .range [] s))
    ∧ (entry.toNat < 7 → sw.toNat ≤ 1 → exec (.loadSet p tag entry sw) s = .next (concluded p .loadSet tag .role [] s))
    ∧ ∀ e : Fin 20, e.val = entry.toNat → 7 ≤ e.val →
      (sw = 1 → s.adm.entries[e].state ≠ .off →
        exec (.loadSet p tag entry sw) s = .next (concluded p .loadSet tag .done [] s))
      ∧ (sw = 0 → s.adm.entries[e].state = .off →
        exec (.loadSet p tag entry sw) s = .next (concluded p .loadSet tag .done [] s))
      ∧ (sw = 0 → s.adm.entries[e].state ≠ .off → s.passive = true →
        exec (.loadSet p tag entry sw) s = .next (concluded p .loadSet tag .done [] (s.withAdm (s.adm.entryOff e))))
      ∧ (sw = 1 → s.adm.entries[e].state = .off → s.settings.restClass e = .essential →
        s.adm.uncounted e = true → s.adm.lvd = false →
        exec (.loadSet p tag entry sw) s = .next (concluded p .loadSet tag .done []
          (s.withAdm (s.adm.entryGranted e .essential (s.settings.restRating e)))))
      ∧ (sw = 1 → s.adm.entries[e].state = .off → s.settings.restClass e = .essential → s.adm.lvd = true →
        exec (.loadSet p tag entry sw) s = .next (concluded p .loadSet tag .done []
          (s.withAdm (s.adm.entryWaiting e .essential (s.settings.restRating e)))))
      ∧ let c := s.settings.restClass e
        (c = .comfort ∨ c = .deferrable → sw = 1 → s.adm.entries[e].state = .off →
          (s.adm.lvd = false → s.adm.queue = [] → s.adm.room e c (s.settings.restRating e) = true →
            exec (.loadSet p tag entry sw) s = .next (concluded p .loadSet tag .done []
              (s.withAdm (s.adm.entryListed e c (s.settings.restRating e)))))
          ∧ (s.adm.lvd = true →
            exec (.loadSet p tag entry sw) s = .next (concluded p .loadSet tag .done []
              (s.withAdm { s.adm.entryWaiting e c (s.settings.restRating e) with
                resume := s.adm.resume.erase e ++ [e] }))))

/-! ### Water services -/

/-- R69: a scan start switches the tank into its settle and restarts its scan timer with the period in force. R75, R76: each
flow pulse counts, adds the pulse volume to what was drawn, moves the estimate down to no less than the step's mark,
and restarts the dry timer of a RUNNING pump. -/
def Obligations.ScanStartsAndPulseCounts : Prop :=
  ∀ s : State, s.calm = true →
    (∀ t : TankId, exec (.scanStart t) s = .next (close (s.setTank t { s.tanks.get t with
      settle := .settling, settleTime := 0, scanTimer := 0
      scanPeriod := if s.sleep.state = .parkedSleep then 60000 else 10000 })))
    ∧ exec .flowPulse s = .next (close (s.withWater { s.water with
        pulses := min 4294967295 (s.water.pulses + 1)
        drawn := min 4294967295 (s.water.drawn + s.settings.pulseVolume)
        vEst := (match s.tanks.fresh.step, s.water.vEst with
          | some c, some v => some (max (s.settings.fresh.mark c) (v - s.settings.pulseVolume))
          | _, v => v)
        dryTimer := if s.water.pump = .running then 0 else s.water.dryTimer }))

/-- R68, R70, R71, R73, R74, R76: a scan completion of a tank in its settle records the electrodes, raises TANK_FAULT where
the gap fault changes, and holds, confirms or accepts the count: a waste tank's acceptance keeps its full latch, a FRESH
rise sets estimate and drawn counter and frees a pump in DRY_LOCK (R82), a FRESH fall bounds the estimate. R81: an
accepted fall to 0 with the pump RUNNING and its dry timer at 20 s or more locks it, and so does an acceptance of 0 over
UNKNOWN (DEDUCED, log entry 30). A voided settle takes no reading; without a scan nothing follows (log entry 5). That a
completion is taken however long the settle has lasted is DESIGN CHOICE (log entry 35). -/
def Obligations.ScanCompletionJudgesReading : Prop :=
  ∀ (t : TankId) (wet : Byte) (s : State), s.calm = true →
    let k := s.tanks.get t
    let m := s.settings.tank t
    let r := (List.range m.count).map fun i => wet.getLsbD i
    let c := (r.takeWhile id).length
    let gap := (r.drop c).any id
    let told (u : State) : State := if gap = k.gap then u else raise .tankFault .tank (tankIndex t) u
    let read (x : TankRec) : State := told (s.setTank t { x with readings := r, gap := gap, settle := .idle })
    (k.settle = .idle → exec (.scanCompletion t wet) s = .next (close s))
    ∧ (k.settle = .void → exec (.scanCompletion t wet) s = .next (close (s.setTank t { k with settle := .idle })))
    ∧ (k.settle = .settling → k.last ≠ some c →
      exec (.scanCompletion t wet) s = .next (close (read { k with last := some c })))
    ∧ (k.settle = .settling → k.last = some c → k.step = some c →
      exec (.scanCompletion t wet) s = .next (close (read k)))
    ∧ (k.settle = .settling → k.last = some c → k.step ≠ some c → t = .grey ∨ t = .black →
      (c = m.count → k.full = false → exec (.scanCompletion t wet) s = .next (close
        (raise .tankFull .tank (tankIndex t)
          (raise .tankLevel .tank (tankIndex t) (read { k with step := some c, full := true })))))
      ∧ (c = m.count → k.full = true → exec (.scanCompletion t wet) s = .next (close
        (raise .tankLevel .tank (tankIndex t) (read { k with step := some c }))))
      ∧ (c ≠ m.count → exec (.scanCompletion t wet) s = .next (close
        (raise .tankLevel .tank (tankIndex t) (read { k with step := some c, full := false })))))
    ∧ (k.settle = .settling → k.last = some c → t = .fresh →
      let w := s.water
      let level (w1 : Water) : State := (raise .tankLevel .tank 0 (read { k with step := some c })).withWater w1
      let dries := c = 0 ∧ w.pump = .running ∧ 20000 ≤ w.dryTimer
      let locked (w1 : Water) : State := raise .pumpLock .water 0 ((level { w1 with
        pump := .dryLock, lock := .dry, requested := false, dryTimer := 0 }).withAdm
          (if w.requested then s.adm.entryOff pumpEntry else s.adm))
      let drained := s.passive = true ∧ (w.requested = true → s.adm.entries[pumpEntry].state ≠ .off)
      (k.step.all (fun o => decide (o < c)) = true →
        let risen : Water := { w with vEst := some (m.mark c), drawn := if c = m.count then 0 else w.drawn }
        (c = 0 ∨ w.pump ≠ .dryLock → ¬ dries → exec (.scanCompletion t wet) s = .next (close (level risen)))
        ∧ (1 ≤ c → w.pump = .dryLock →
          (w.demand = false → exec (.scanCompletion t wet) s
            = .next (close (level { risen with pump := .ready, lock := .none })))
          ∧ (w.demand = true → s.adm.lvd = false → s.adm.entries[pumpEntry].state = .off →
            s.adm.uncounted pumpEntry = true →
            exec (.scanCompletion t wet) s = .next (close
              ((level { risen with pump := .running, lock := .none, requested := true, dryTimer := 0 }).withAdm
                (s.adm.entryGranted pumpEntry .essential 500)))))
        ∧ (dries → drained → exec (.scanCompletion t wet) s = .next (close (locked risen))))
      ∧ (k.step.any (fun o => decide (c < o)) = true → w.vEst.isSome = true →
        let fallen : Water := { w with vEst := w.vEst.map (min · (m.mark (c + 1))) }
        (¬ dries → exec (.scanCompletion t wet) s = .next (close (level fallen)))
        ∧ (dries → drained → exec (.scanCompletion t wet) s = .next (close (locked fallen)))))

/-- R79, R80: an ACTIVE demand is recorded as a wake cause and, in READY with entry 4 OFF in NORMAL, requests entry 4 and runs
the pump; an INACTIVE one stops a READY or RUNNING pump to READY, its entry released. R81: the dry timer of a RUNNING pump
at its limit, 20 s at FRESH step 0 and else 120 s, locks it with cause DRY, releases entry 4 and raises PUMP_LOCK; short of the
limit, where a pulse taken first has restarted the timer, and of another pump nothing follows (log entry 5). -/
def Obligations.DemandAndDryLimitMovePump : Prop :=
  ∀ s : State, s.calm = true →
    let w := s.water
    let limit := if s.tanks.fresh.step = some 0 then 20000 else 120000
    let passing := w.pump ≠ .ready ∧ w.pump ≠ .running
    (passing ∨ (w.pump = .ready ∧ w.requested = true) ∨ w.pump = .running →
      exec (.pressureSwitchChange true) s = .next (close (wakeCause (s.withWater { w with demand := true }))))
    ∧ (w.pump = .ready → w.requested = false → s.adm.lvd = false → s.adm.entries[pumpEntry].state = .off →
        s.adm.uncounted pumpEntry = true →
        exec (.pressureSwitchChange true) s = .next (close (((wakeCause s).withWater { w with
          demand := true, pump := .running, requested := true, dryTimer := 0 }).withAdm
            (s.adm.entryGranted pumpEntry .essential 500))))
    ∧ (passing → exec (.pressureSwitchChange false) s = .next (close (s.withWater { w with demand := false })))
    ∧ (w.pump = .ready → w.requested = false → exec (.pressureSwitchChange false) s = .next (close (s.withWater
        { w with demand := false, lock := .none, dryTimer := 0 })))
    ∧ (w.pump = .ready ∨ w.pump = .running → w.requested = true → s.passive = true →
        s.adm.entries[pumpEntry].state ≠ .off →
        exec (.pressureSwitchChange false) s = .next (close ((s.withWater { w with
          demand := false, pump := .ready, lock := .none, requested := false, dryTimer := 0 }).withAdm
            (s.adm.entryOff pumpEntry))))
    ∧ (w.pump = .running → limit ≤ w.dryTimer → s.passive = true →
        (w.requested = true → s.adm.entries[pumpEntry].state ≠ .off) →
        exec .dryLock s = .next (close (raise .pumpLock .water 0 ((s.withWater { w with
          pump := .dryLock, lock := .dry, requested := false, dryTimer := 0 }).withAdm
            (if w.requested then s.adm.entryOff pumpEntry else s.adm)))))
    ∧ (w.pump ≠ .running ∨ w.dryTimer < limit → exec .dryLock s = .next (close s))

/-- R78: PUMP refuses RANGE; ON is refused FROST in FROST_LOCK, changes nothing in READY and RUNNING, and else makes the pump
READY, and RUNNING at once where the demand is ACTIVE and NORMAL grants entry 4; OFF changes nothing in DISABLED and
FROST_LOCK and else makes it DISABLED with entry 4 released where it was requested. -/
def Obligations.PumpSwitchedAsTable : Prop :=
  ∀ (p : PortId) (tag sw : Byte) (s : State), s.open_ p = true → p ≠ .vehicle →
    (1 < sw.toNat → exec (.pump p tag sw) s = .next (concluded p .pump tag .range [] s))
    ∧ (sw = 1 → s.water.pump = .frostLock → exec (.pump p tag sw) s = .next (concluded p .pump tag .frost [] s))
    ∧ (sw = 1 → s.water.pump = .ready ∨ s.water.pump = .running →
        exec (.pump p tag sw) s = .next (concluded p .pump tag .done [] s))
    ∧ (sw = 0 → s.water.pump = .disabled ∨ s.water.pump = .frostLock →
        exec (.pump p tag sw) s = .next (concluded p .pump tag .done [] s))
    ∧ (sw = 1 → s.water.pump = .disabled ∨ s.water.pump = .dryLock → s.water.demand = false →
        exec (.pump p tag sw) s = .next (concluded p .pump tag .done []
          (s.withWater { s.water with pump := .ready, lock := .none })))
    ∧ (sw = 1 → s.water.pump = .disabled ∨ s.water.pump = .dryLock → s.water.demand = true → s.adm.lvd = false →
        s.adm.entries[pumpEntry].state = .off → s.adm.uncounted pumpEntry = true →
        exec (.pump p tag sw) s = .next (concluded p .pump tag .done []
          ((s.withWater { s.water with pump := .running, lock := .none, requested := true, dryTimer := 0 }).withAdm
            (s.adm.entryGranted pumpEntry .essential 500))))
    ∧ (sw = 0 → s.water.pump = .ready ∨ s.water.pump = .running ∨ s.water.pump = .dryLock →
        (s.water.requested = true → s.passive = true ∧ s.adm.entries[pumpEntry].state ≠ .off) →
        exec (.pump p tag sw) s = .next (concluded p .pump tag .done []
          ((s.withWater { s.water with pump := .disabled, lock := .none, requested := false, dryTimer := 0 }).withAdm
            (if s.water.requested then s.adm.entryOff pumpEntry else s.adm))))

/-! ### Heater and frost guard -/

/-- R88, R89, R91, R96: HEAT is refused LOCKED in LOCKOUT and RANGE for another mode; it takes the setpoint clamped to 50 to
300; OFF becomes FROST_KEEP while the frost-keep flag is set; the mode alone changes in GLOW, IGNITE and PURGE, and where it
is already in force; from OFF a start asks for entry 3, granted into GLOW where nothing waits and it fits, and waiting in
LVD; an OFF in RUN begins a purge. LOCKED before RANGE is the model's choice (log entry 12). -/
def Obligations.HeatSetsMode : Prop :=
  ∀ (p : PortId) (tag mode : Byte) (sp : Half) (s : State), s.open_ p = true → p ≠ .vehicle →
    let taken : Settings := { s.settings with setpoint := min 300 (max 50 sp.toInt) }
    let stopped : HeatMode := if s.frost.keep then .frostKeep else .off
    let asked : HeatMode := if mode = 1 then .comfort else stopped
    (s.heater.state = .lockout → exec (.heat p tag mode sp) s = .next (concluded p .heat tag .locked [] s))
    ∧ (s.heater.state ≠ .lockout → 1 < mode.toNat →
      exec (.heat p tag mode sp) s = .next (concluded p .heat tag .range [] s))
    ∧ (mode.toNat ≤ 1 → s.heater.state ≠ .lockout →
        asked = s.heater.mode ∨ s.heater.state = .glow ∨ s.heater.state = .ignite ∨ s.heater.state = .purge →
        exec (.heat p tag mode sp) s = .next (concluded p .heat tag .done []
          ((s.withSettings taken).withHeater { s.heater with mode := asked })))
    ∧ (mode.toNat ≤ 1 → s.heater.state = .off → s.heater.mode = .off → asked ≠ .off → s.frostQuiet = true →
        s.adm.entries[glowEntry].state = .off →
        (s.adm.lvd = false → s.adm.queue = [] → s.adm.room glowEntry .comfort 800 = true →
          exec (.heat p tag mode sp) s = .next (concluded p .heat tag .done []
            (((s.withSettings taken).withHeater (({ s.heater with mode := asked } : Heater).entering .glow)).withAdm
              (s.adm.entryListed glowEntry .comfort 800))))
        ∧ (s.adm.lvd = true →
          exec (.heat p tag mode sp) s = .next (concluded p .heat tag .done []
            (((s.withSettings taken).withHeater (({ s.heater with mode := asked } : Heater).entering .waitGrant)).withAdm
              { s.adm.entryWaiting glowEntry .comfort 800 with resume := s.adm.resume.erase glowEntry ++ [glowEntry] }))))
    ∧ (mode = 0 → s.frost.keep = false → s.heater.state = .run → s.heater.mode ≠ .off → s.purgeReady = true →
        exec (.heat p tag mode sp) s = .next (concluded p .heat tag .done []
          (((s.withSettings taken).withHeater { (s.heater.entering .purge) with mode := .off, reason := .modeOff }).withAdm
            s.adm.purging)))

/-- R92, R93, R95: the glow timer's end, not while CRANKING, releases entry 3 and asks for entry 2 in IGNITE, or purges where
the mode is OFF; the ignite timer's end, not while CRANKING, and the flame-out timer's end in RUN count an attempt, at
most 2, and purge. In other states, and short of its limit, nothing follows (log entry 5). -/
def Obligations.HeaterTimersEndPhases : Prop :=
  ∀ s : State, s.calm = true →
    let h := s.heater
    let counted := min 2 (h.attempts + 1)
    let purged (r : PurgeReason) (n : Nat) : State :=
      (s.withHeater { (h.entering .purge) with reason := r, attempts := n }).withAdm s.adm.purging
    (h.state = .glow → 45000 ≤ h.phase → s.drive.state ≠ .cranking → h.mode = .off → s.purgeReady = true →
      exec .glowEnd s = .next (close (purged .modeOff h.attempts)))
    ∧ (h.state = .glow → 45000 ≤ h.phase → s.drive.state ≠ .cranking → h.mode ≠ .off → s.frostQuiet = true → s.adm.lvd = false →
        s.passive = true → s.adm.entries[glowEntry].state ≠ .off → s.adm.entries[fanEntry].state = .off →
        s.adm.uncounted fanEntry = true →
        exec .glowEnd s = .next (close ((s.withHeater (h.entering .ignite)).withAdm
          ((s.adm.entryOff glowEntry).entryGranted fanEntry .essential 80))))
    ∧ (h.state ≠ .glow ∨ h.phase < 45000 ∨ s.drive.state = .cranking → exec .glowEnd s = .next (close s))
    ∧ (h.state = .ignite → 90000 ≤ h.phase → s.drive.state ≠ .cranking → s.purgeReady = true →
      exec .failedStart s = .next (close (purged .failedStart counted)))
    ∧ (h.state ≠ .ignite ∨ h.phase < 90000 ∨ s.drive.state = .cranking → exec .failedStart s = .next (close s))
    ∧ (h.state = .run → h.flameRunning = true → 20000 ≤ h.flameTimer → s.purgeReady = true →
      exec .flameOut s = .next (close (purged .flameOut counted)))
    ∧ (h.state ≠ .run ∨ h.flameRunning = false ∨ h.flameTimer < 20000 → exec .flameOut s = .next (close s))

/-- R96, R98: the purge timer's end releases entry 2 and leads, by reason, attempt count and mode, to LOCKOUT with HEATER
raised, to OFF with the count cleared, to STANDBY, or to a new start, granted into GLOW where it fits. In other states,
and short of the limit, nothing follows (log entry 5). R98, R91: CLEAR_LOCKOUT changes nothing outside LOCKOUT; in
LOCKOUT, with no entry held and the mode OFF, it leaves the heater OFF with count and cause cleared, and with the
frost-keep flag set starts it in FROST_KEEP. The release of entry 2 comes before the request of entry 3 (DESIGN CHOICE,
log entry 43). -/
def Obligations.PurgeAndLockoutEnd : Prop :=
  (∀ s : State, s.calm = true →
    let h : Heater := { s.heater with reason := .none }
    let failed := s.heater.reason = .failedStart ∨ s.heater.reason = .flameOut
    let a := s.adm.entryOff fanEntry
    (s.heater.state ≠ .purge ∨ s.heater.phase < 120000 → exec .purgeEnd s = .next (close s))
    ∧ (s.heater.state = .purge → 120000 ≤ s.heater.phase → s.frostQuiet = true → s.passive = true → s.adm.entries[glowEntry].state = .off →
        s.adm.entries[fanEntry].state ≠ .off →
        (failed → 2 ≤ s.heater.attempts → exec .purgeEnd s = .next (close (raise .heater .heater 0
          ((s.withHeater { (h.entering .lockout) with
            mode := .off, lockout := if s.heater.reason = .failedStart then .startFail else .flameOut }).withAdm a))))
        ∧ (¬ (failed ∧ 2 ≤ s.heater.attempts) → h.mode = .off →
          exec .purgeEnd s = .next (close ((s.withHeater { (h.entering .off) with attempts := 0 }).withAdm a)))
        ∧ (s.heater.reason = .satisfied → h.mode ≠ .off →
          exec .purgeEnd s = .next (close ((s.withHeater (h.entering .standby)).withAdm a)))
        ∧ (¬ (failed ∧ 2 ≤ s.heater.attempts) → s.heater.reason ≠ .satisfied → h.mode ≠ .off → s.adm.lvd = false →
          s.adm.queue = [] → a.room glowEntry .comfort 800 = true →
          exec .purgeEnd s = .next (close ((s.withHeater (h.entering .glow)).withAdm (a.entryListed glowEntry .comfort 800))))))
  ∧ ∀ (p : PortId) (tag : Byte) (s : State), s.open_ p = true → p ≠ .vehicle →
    let h : Heater := { s.heater with attempts := 0, lockout := .none }
    (s.heater.state ≠ .lockout → exec (.clearLockout p tag) s = .next (concluded p .clearLockout tag .done [] s))
    ∧ (s.heater.state = .lockout → s.heater.mode = .off → s.frostQuiet = true → s.adm.entries[glowEntry].state = .off →
        s.adm.entries[fanEntry].state = .off →
        (s.frost.keep = false → exec (.clearLockout p tag) s = .next (concluded p .clearLockout tag .done []
          (s.withHeater (h.entering .off))))
        ∧ (s.frost.keep = true → s.adm.lvd = false → s.adm.queue = [] → s.adm.room glowEntry .comfort 800 = true →
          exec (.clearLockout p tag) s = .next (concluded p .clearLockout tag .done []
            ((s.withHeater { (h.entering .glow) with mode := .frostKeep }).withAdm
              (s.adm.entryListed glowEntry .comfort 800)))))

/-- R101, R94: the cabin absence limit leaves no cabin temperature, and RUN then holds LOW demand, entry 2 asked for at 80.
R103, R105, R106: the water hold limit leaves no water temperature, and with the guard ON, the drain CLOSED and the heater
outside RUN and PURGE opens the drain with reason SENSOR, PUMP_LOCK raised before DRAIN (DESIGN CHOICE, log entry 23).
With the sensors present nothing follows (log entry 5). -/
def Obligations.LostSensorsLeaveNoValue : Prop :=
  ∀ s : State, s.calm = true →
    let f : Frost := { s.frost with water := none, source := .none, hold := max 60000 s.frost.hold }
    let held := s.adm.entryOff holdEntry
    let h : Heater := { s.heater with cabin := none, cabinAbsence := max 60000 s.heater.cabinAbsence }
    (0 < s.heater.cabinAbsence → s.heater.state ≠ .run ∨ s.heater.demand = some .low →
      exec .cabinSensorLost s = .next (close (s.withHeater h)))
    ∧ (0 < s.heater.cabinAbsence → s.heater.state = .run → s.heater.demand ≠ some .low → s.adm.lvd = false →
        s.adm.uncounted fanEntry = true →
        (s.adm.entries[fanEntry].state = .off ∨ s.adm.entries[fanEntry].cls ≠ .essential
          ∨ s.adm.entries[fanEntry].rating ≠ 80) →
        exec .cabinSensorLost s = .next (close ((s.withHeater { h with demand := some .low }).withAdm
          (s.adm.entryGranted fanEntry .essential 80))))
    ∧ (s.heater.cabinAbsence = 0 → exec .cabinSensorLost s = .next (close s))
    ∧ (s.frost.hold = 0 → exec .waterHoldExpiry s = .next (close s))
    ∧ (0 < s.frost.hold → s.settings.frostGuard = false ∨ s.frost.drainOpen = true ∨ s.heater.state = .run
          ∨ s.heater.state = .purge →
        exec .waterHoldExpiry s = .next (close (s.withFrost f)))
    ∧ (0 < s.frost.hold → s.settings.frostGuard = true → s.frost.drainOpen = false → s.heater.state ≠ .run →
        s.heater.state ≠ .purge → s.passive = true → s.adm.entries[holdEntry].state ≠ .off →
        (s.water.requested = true → s.adm.entries[pumpEntry].state ≠ .off) →
        exec .waterHoldExpiry s = .next (close (raise .drain .water 0 (raise .pumpLock .water 0
          (((s.withFrost { f with drainOpen := true, reason := .sensor }).withWater { s.water with
            pump := .frostLock, lock := .frost, requested := false, dryTimer := 0 }).withAdm
              (if s.water.requested then held.entryOff pumpEntry else held))))))

/-- R93, R94, R95, R97, R101: what a sample makes of the heater where the blocks before it change no grant in NORMAL and the
frost guard has nothing to do: the cabin temperature in use is taken or its absence counted; in IGNITE a flame of 80.0
degrees leads to RUN with the attempt count cleared, or to a purge where the mode is OFF (that a retry's flame clears it too
is DESIGN CHOICE between R93 and R96, log entry 46); in RUN an exhaust of 60.0 degrees clears the flame-out timer and
another lets it run; the demand follows the error by R94's table, entry 2 asked for at its rating where it changes, and
-1.0 degree ends RUN as SATISFIED; in STANDBY an error of 1.0 degree or more starts the heater. The order of the blocks is
that of log entry 10. -/
def Obligations.SampleRunsHeater : Prop :=
  ∀ (x : Sample) (s : State), s.calm = true →
    let u := sampleAdmitted x s
    u.adm.changes = [] → u.adm.lvd = false → s.motion.holder = none → s.frostPassive x = true →
    let h := s.heater.takingCabin s.period (readTCabin x).value
    let error : Option Int := h.cabin.map fun cabin =>
      (if s.heater.mode = .frostKeep then 50 else s.settings.setpoint) - cabin
    let hot (limit : Int) : Bool := (readTExhaust x).value.any fun temp => decide (limit ≤ temp)
    let demand : Option Demand := match error with
      | none => some .low
      | some e => if 20 ≤ e then some .high else if 5 ≤ e then some .medium else if -9 ≤ e then some .low else none
    let rating (d : Demand) : Nat := match d with
      | .low => 80
      | .medium => 120
      | .high => 180
    let asks (d : Demand) : Prop := u.adm.uncounted fanEntry = true ∧
      (u.adm.entries[fanEntry].state = .off ∨ u.adm.entries[fanEntry].cls ≠ .essential
        ∨ u.adm.entries[fanEntry].rating ≠ rating d)
    let fan (d : Demand) : Adm := u.adm.entryGranted fanEntry .essential (rating d)
    let leaves (k : Heater) (a : Adm) : Prop :=
      ∃ t, exec (.sampleEvent x) s = .next t ∧ t.heater = k ∧ t.adm = a ∧ t.settings = s.settings
    (s.heaterPassive = true → leaves h u.adm)
    ∧ (h.state = .ignite → hot 800 = false → leaves h u.adm)
    ∧ (h.state = .ignite → hot 800 = true →
      let k : Heater := { h with attempts := 0 }
      (h.mode = .off → u.purgeReady = true → leaves { (k.entering .purge) with reason := .modeOff } u.adm.purging)
      ∧ (h.mode ≠ .off → demand = none → u.purgeReady = true →
        leaves { (k.entering .purge) with reason := .satisfied } u.adm.purging)
      ∧ ∀ d, h.mode ≠ .off → demand = some d → asks d → leaves { (k.entering .run) with demand := some d } (fan d))
    ∧ (h.state = .run →
      let k : Heater :=
        { h with flameRunning := !hot 600, flameTimer := if hot 600 = true then 0 else h.flameTimer }
      (demand = none → u.purgeReady = true → leaves { (k.entering .purge) with reason := .satisfied } u.adm.purging)
      ∧ ∀ d, demand = some d →
        (h.demand = some d → leaves k u.adm) ∧ (h.demand ≠ some d → asks d → leaves { k with demand := some d } (fan d)))
    ∧ (h.state = .standby →
      (error.all (fun e => decide (e < 10)) = true → leaves h u.adm)
      ∧ (error.any (fun e => decide (10 ≤ e)) = true → s.frostQuiet = true → u.adm.queue = [] →
        u.adm.entries[glowEntry].state = .off → u.adm.room glowEntry .comfort 800 = true →
        leaves (h.entering .glow) (u.adm.entryListed glowEntry .comfort 800)))

/-- R84, R103, R104, R106, R120: what a sample makes of the frost guard, the pads and the motors where the blocks before them
change no grant and the heater has only its cabin temperature to take (R101): the water temperature in use by R103's
table; the pads asked for at 4.0 degrees or less and given up at 6.0 or more; the frost-keep flag set at 5.0 degrees or
less with the guard ON and cleared at 8.0 or more, the mode with it, in LOCKOUT the flag alone; the drain opened at 3.0
degrees or less, or without a value; and the stall timer of a MOVING record: left at 0 by its first sample, then advanced,
cleared or held by the current, 300 ms faulting it. The order of the blocks is that of log entry 10, and a SATURATED
current not above the threshold holds the timer (DEDUCED, log entry 14); the faulted record has its grant wait and reversal
timers at 0 (DESIGN CHOICE, log entry 31). -/
def Obligations.SampleGuardsWaterAndMotors : Prop :=
  ∀ (x : Sample) (s : State), s.calm = true → s.heaterPassive = true →
    let u := sampleAdmitted x s
    u.adm.changes = [] →
    let p := s.period
    let h := s.heater.takingCabin p (readTCabin x).value
    let hold := s.frost.hold + p
    let f : Frost := match (readTWaterBay x).value, (readTCabin x).value with
      | some temp, _ => { s.frost with water := some temp, source := .waterBay, hold := 0 }
      | none, some temp => { s.frost with water := some temp, source := .cabin, hold := 0 }
      | none, none =>
        if 60000 ≤ hold then { s.frost with water := none, source := .none, hold := hold }
        else { s.frost with source := if s.frost.water.isSome then .held else .none, hold := hold }
    let guard := s.settings.frostGuard
    let closed := guard = true ∧ s.frost.drainOpen = false ∧ s.heater.state ≠ .purge
    let at_ (lo hi : Int) : Prop := f.water.any (fun temp => decide (lo ≤ temp) && decide (temp ≤ hi)) = true
    let w := s.water
    let leaves (f1 : Frost) (w1 : Water) (m : HeatMode) (a : Adm) : Prop :=
      ∃ t, exec (.sampleEvent x) s = .next t ∧ t.frost = f1 ∧ t.water = w1 ∧ t.heater = { h with mode := m } ∧ t.adm = a
    let padsRest := (w.asking = true ∧ at_ (-400) 59) ∨ (w.asking = false ∧ at_ 41 850) ∨ f.water = none
    let keepRests := (f.keep = true ∧ at_ (-400) 79) ∨ (f.keep = false ∧ at_ 51 850) ∨ f.water = none
      ∨ (guard = false ∧ at_ (-400) 79)
    let noRelease := ¬ closed ∨ at_ 31 850
    (s.motion.holder = none →
      (padsRest → keepRests → noRelease → leaves f w h.mode u.adm)
      ∧ (w.asking = false → at_ (-400) 40 → keepRests → noRelease → u.adm.lvd = false → u.adm.queue = [] →
        u.adm.entries[padEntry].state = .off → u.adm.room padEntry .deferrable 600 = true →
        leaves f { w with asking := true } h.mode (u.adm.entryListed padEntry .deferrable 600))
      ∧ (w.asking = true → at_ 60 850 → keepRests → u.passive = true → u.adm.entries[padEntry].state ≠ .off →
        leaves f { w with asking := false } h.mode (u.adm.entryOff padEntry))
      ∧ (padsRest → s.heater.state = .glow ∨ s.heater.state = .purge ∨ s.heater.state = .lockout →
        (f.keep = false → guard = true → at_ (-400) 50 → noRelease →
          leaves { f with keep := true } w
            (if s.heater.state ≠ .lockout ∧ h.mode = .off then .frostKeep else h.mode) u.adm)
        ∧ (f.keep = true → at_ 80 850 →
          leaves { f with keep := false } w
            (if s.heater.state ≠ .lockout ∧ h.mode = .frostKeep then .off else h.mode) u.adm))
      ∧ (closed → padsRest → keepRests → f.water = none ∨ at_ (-400) 30 → u.passive = true →
        u.adm.entries[holdEntry].state ≠ .off → (w.requested = true → u.adm.entries[pumpEntry].state ≠ .off) →
        leaves { f with drainOpen := true, reason := if f.water = none then .sensor else .frost }
          { w with pump := .frostLock, lock := .frost, requested := false, dryTimer := 0 } h.mode
          (if w.requested then (u.adm.entryOff holdEntry).entryOff pumpEntry else u.adm.entryOff holdEntry)))
    ∧ ∀ a : Actuator, s.motion.holder = some a → s.frostPassive x = true → (s.motionRec a).activity = .moving →
      (s.motionRec (otherActuator a)).activity ≠ .moving →
      let r := s.motionRec a
      let limit : Int := (s.settings.motion a).stallThreshold
      let n : Nat := match readMotorI x with
        | .valid v => if limit < v then r.stallTimer + p else 0
        | .saturated v => if limit < v then r.stallTimer + p else r.stallTimer
        | .absent => r.stallTimer
      let moves (q : MotionRec) (holder : Option Actuator) (ad : Adm) : Prop :=
        ∃ t, exec (.sampleEvent x) s = .next t ∧ t.adm = ad
          ∧ t.motion = { s.motion with recs := s.motion.recs.set a q, holder := holder }
      (r.surge = true → moves { r with surge := false, stallTimer := 0 } (some a) u.adm)
      ∧ (r.surge = false → n < 300 → moves { r with stallTimer := n } (some a) u.adm)
      ∧ (r.surge = false → 300 ≤ n → s.motion.waiter = none → r.requester ≠ some .routine →
        u.passiveBut motorEntry = true →
        moves (r.resting .fault .stall .stall) none (u.adm.withdrawn motorEntry))

/-- R107, R105, R83: OPEN_DRAIN on an OPEN drain changes nothing; on a CLOSED one it opens it with reason REQUEST, releases
the hold, locks the pump with its entry released, and raises PUMP_LOCK and then DRAIN (that order is DESIGN CHOICE, log
entry 23). R108: CLOSE_DRAIN on a CLOSED drain changes nothing; with the guard ON it is refused FROST without a
temperature of 7.0 degrees or more; else it closes the drain, requests the hold, frees the pump and raises DRAIN. -/
def Obligations.DrainOpensAndCloses : Prop :=
  ∀ (p : PortId) (tag : Byte) (s : State), s.open_ p = true → p ≠ .vehicle →
    let cold := s.frost.water.all (fun temp => decide (temp < 70)) = true
    let held := s.adm.entryOff holdEntry
    (s.frost.drainOpen = true → exec (.openDrain p tag) s = .next (concluded p .openDrain tag .done [] s))
    ∧ (s.frost.drainOpen = false → s.passive = true → s.adm.entries[holdEntry].state ≠ .off →
        (s.water.requested = true → s.adm.entries[pumpEntry].state ≠ .off) →
        exec (.openDrain p tag) s = .next (concluded p .openDrain tag .done []
          (raise .drain .water 0 (raise .pumpLock .water 0
            (((s.withFrost { s.frost with drainOpen := true, reason := .request }).withWater { s.water with
              pump := .frostLock, lock := .frost, requested := false, dryTimer := 0 }).withAdm
                (if s.water.requested then held.entryOff pumpEntry else held))))))
    ∧ (s.frost.drainOpen = false → exec (.closeDrain p tag) s = .next (concluded p .closeDrain tag .done [] s))
    ∧ (s.frost.drainOpen = true → s.settings.frostGuard = true → cold →
        exec (.closeDrain p tag) s = .next (concluded p .closeDrain tag .frost [] s))
    ∧ (s.frost.drainOpen = true → s.settings.frostGuard = false ∨ ¬ cold → s.water.pump = .frostLock →
        s.adm.entries[holdEntry].state = .off → s.adm.uncounted holdEntry = true →
        exec (.closeDrain p tag) s = .next (concluded p .closeDrain tag .done []
          (raise .drain .water 0 (((s.withFrost { s.frost with drainOpen := false, reason := .none }).withWater
            { s.water with pump := .disabled, lock := .none }).withAdm
              (s.adm.entryGranted holdEntry .prot 30)))))

/-! ### Awning and entry step -/

/-- R114, R115, R112, R116, R117: a MOVE refuses RANGE, then ROLE, then LOCKED, then INTERLOCK; at its end already it changes
nothing; it starts a stow at once under PROTECTED, a deploy at once where it fits and else in WAIT_GRANT; with the driver held
it waits; the same direction in flight changes nothing, a PAUSED record refuses the other; an opposite MOVE turns a waiting
record where it stands, a WAIT_GRANT deploy to a stow that runs at once, and a MOVING or REVERSING record by a reversal, a
stow turned to a deploy asking for entry 1 anew as COMFORT. The grant wait and reversal timers of a motor that runs or of a
motion that ends stand at 0 (DESIGN CHOICE, log entry 31). -/
def Obligations.MoveJudgedAndStarted : Prop :=
  ∀ (p : PortId) (tag act dir : Byte) (s : State), s.open_ p = true → p ≠ .vehicle →
    let q : Requester := if p = .panel then .panel else .remote
    (1 < act.toNat ∨ 1 < dir.toNat → exec (.move p tag act dir) s = .next (concluded p .move tag .range [] s))
    ∧ ∀ (a : Actuator) (d : Direction), act.toNat = actuatorIndex a → dir.toNat = d.code →
      let r := s.motionRec a
      let barred := d = .deploy ∧ s.drive.state ≠ .parked
      let begun := r.begun d q (s.settings.motion a).travelLimit
      let put (x : MotionRec) (h : Option Actuator) : State :=
        s.withMotion { s.motion with recs := s.motion.recs.set a x, holder := h }
      (d = .deploy → p = .remote → exec (.move p tag act dir) s = .next (concluded p .move tag .role [] s))
      ∧ (¬ (d = .deploy ∧ p = .remote) →
        (r.activity = .fault → exec (.move p tag act dir) s = .next (concluded p .move tag .locked [] s))
        ∧ (r.activity ≠ .fault → barred →
          exec (.move p tag act dir) s = .next (concluded p .move tag .interlock [] s))
        ∧ (¬ barred → r.activity = .idle → r.atEnd d = true →
          exec (.move p tag act dir) s = .next (concluded p .move tag .done [] s))
        ∧ (d = .stow → r.activity = .idle → r.atEnd d = false → s.motion.holder = none →
            s.adm.entries[motorEntry].state = .off → s.adm.uncounted motorEntry = true →
            exec (.move p tag act dir) s = .next (concluded p .move tag .accepted []
              ((put (begun.running s.drive.state) (some a)).withAdm
                (s.adm.entryGranted motorEntry .prot (motorRating a)))))
        ∧ (d = .deploy → ¬ barred → r.activity = .idle → r.atEnd d = false → s.motion.holder = none →
            s.adm.entries[motorEntry].state = .off →
            let waits := put { begun with activity := .waitGrant, grantWait := 0 } (some a)
            (s.adm.lvd = false → s.adm.queue = [] → s.adm.room motorEntry .comfort (motorRating a) = true →
              exec (.move p tag act dir) s = .next (concluded p .move tag .accepted []
                ((put (begun.running s.drive.state) (some a)).withAdm
                  (s.adm.entryListed motorEntry .comfort (motorRating a)))))
            ∧ (s.adm.lvd = false → s.adm.queue = [] → s.adm.room motorEntry .comfort (motorRating a) = false →
              exec (.move p tag act dir) s = .next (concluded p .move tag .accepted []
                (waits.withAdm (s.adm.entryQueued motorEntry .comfort (motorRating a)))))
            ∧ (s.adm.lvd = true →
              exec (.move p tag act dir) s = .next (concluded p .move tag .accepted []
                (waits.withAdm { s.adm.entryWaiting motorEntry .comfort (motorRating a) with
                  resume := s.adm.resume.erase motorEntry ++ [motorEntry] }))))
        ∧ (¬ barred → r.activity = .idle → r.atEnd d = false → s.motion.holder.isSome = true →
            exec (.move p tag act dir) s = .next (concluded p .move tag .accepted []
              (s.withMotion { s.motion with
                recs := s.motion.recs.set a { begun with activity := .waitDriver }, waiter := some a })))
        ∧ (¬ barred → r.inFlight = true → r.direction = some d →
          exec (.move p tag act dir) s = .next (concluded p .move tag .done [] s))
        ∧ (¬ barred → r.activity = .paused → r.direction ≠ some d →
          exec (.move p tag act dir) s = .next (concluded p .move tag .interlock [] s))
        ∧ (¬ barred → r.activity = .waitDriver → r.direction ≠ some d → r.requester ≠ some .routine →
          exec (.move p tag act dir) s = .next (concluded p .move tag .accepted []
            (s.setRec a { r with direction := some d, requester := some q })))
        ∧ (r.requester ≠ some .routine → r.atEnd d = false → s.motion.holder = some a → r.direction = some d.opposite →
          (d = .stow → r.activity = .waitGrant → s.adm.entries[motorEntry].cls = .comfort →
            s.adm.uncounted motorEntry = true →
            exec (.move p tag act dir) s = .next (concluded p .move tag .accepted []
              ((put (begun.running s.drive.state) (some a)).withAdm
                (s.adm.entryGranted motorEntry .prot (motorRating a)))))
          ∧ (r.activity = .moving ∨ r.activity = .reversing →
            let turned (x : Adm) := exec (.move p tag act dir) s = .next (concluded p .move tag .accepted []
              ((put { begun with activity := .reversing, surge := false, grantWait := 0, reversal := 0 } (some a)).withAdm x))
            (d = .stow → s.passiveBut motorEntry = true → s.adm.entries[motorEntry].cls = .comfort →
              turned (s.adm.entryGranted motorEntry .prot (motorRating a)))
            ∧ (d = .deploy → ¬ barred → s.adm.entries[motorEntry].cls = .prot →
              (s.adm.lvd = false → s.adm.queue = [] →
                turned (if s.adm.room motorEntry .comfort (motorRating a) then
                  s.adm.entryListed motorEntry .comfort (motorRating a)
                  else s.adm.entryQueued motorEntry .comfort (motorRating a)))
              ∧ (s.adm.lvd = true → turned { s.adm.entryWaiting motorEntry .comfort (motorRating a) with
                  resume := s.adm.resume.erase motorEntry ++ [motorEntry] })))))

/-- R111, R119, R121, R112, R130, R155: a switch change is recorded; it leaves a FAULT, and an IDLE record without conflict,
at that; a conflict faults the record; the switch of the direction in flight completes the motion, which frees entry 1 and
the driver and raises MOTION. A waiting stow then takes the driver, and the routine that waits for the motion takes its
end: a completed last step ends it DONE, a fault ABORTED. The record at rest has its grant wait and reversal timers at 0
(DESIGN CHOICE, log entry 31). -/
def Obligations.EndSwitchEndsMotion : Prop :=
  ∀ (a : Actuator) (w : EndSwitch) (active : Bool) (s : State), s.calm = true →
    let r : MotionRec := match w with
      | .stowed => { s.motionRec a with stowedSw := active }
      | .deployed => { s.motionRec a with deployedSw := active }
    let dir : Direction := match w with
      | .stowed => .stow
      | .deployed => .deploy
    let u := s.setRec a r
    (r.activity = .fault ∨ (r.activity = .idle ∧ r.conflict = false)
        ∨ (r.inFlight = true ∧ r.conflict = false ∧ (active = false ∨ r.direction ≠ some dir)) →
      exec (.endSwitchChange a w active) s = .next (close u))
    ∧ (r.activity = .idle → r.conflict = true → s.motion.holder ≠ some a → s.motion.waiter ≠ some a →
        r.requester = none →
        exec (.endSwitchChange a w active) s = .next (close (raise .motion .motion (actuatorIndex a)
          (s.setRec a (r.resting .fault .switchConflict .switchConflict)))))
    ∧ (r.inFlight = true → r.conflict = true → s.aloneAt a = true →
        exec (.endSwitchChange a w active) s = .next (close (u.ended a .fault .switchConflict .switchConflict)))
    ∧ (r.inFlight = true → r.conflict = false → active = true → r.direction = some dir → s.aloneAt a = true →
        exec (.endSwitchChange a w active) s = .next (close (u.ended a .idle .none .done)))
    ∧ (r.inFlight = true → r.conflict = false → active = true → r.direction = some dir →
      (∀ b : Actuator, u.handsOver a b = true →
        exec (.endSwitchChange a w active) s = .next (close (u.passedOn a b .idle .none .done)))
      ∧ ∀ k ∈ s.runner.run, u.routineAt a k = true → k.step = (routineSteps s.settings k.call.routine).length → 1 ≤ k.step →
        exec (.endSwitchChange a w active) s = .next (close ((u.ended a .idle .none .done).routineEnded k .done .none)))
    ∧ (r.inFlight = true → r.conflict = true →
      (∀ b : Actuator, u.handsOver a b = true →
        exec (.endSwitchChange a w active) s = .next (close (u.passedOn a b .fault .switchConflict .switchConflict)))
      ∧ ∀ k ∈ s.runner.run, u.routineAt a k = true →
        exec (.endSwitchChange a w active) s = .next (close
          ((u.ended a .fault .switchConflict .switchConflict).routineEnded k .aborted (.motion .switchConflict))))

/-- R117, R118, R120, R121: the reversal timer's end runs the motor where entry 1 is GRANTED and else waits for the grant (the
timers it leaves at 0: log entry 31); the grant wait's end gives the deploy up as NO_BUDGET; the stall timer's and the
travel timer's ends fault a MOVING record. R112, R130, R155: a waiting stow then takes the driver, and the routine that waits
for the motion ends ABORTED with its result. On a record in another activity, and for each timer but the stall's short of its
limit, nothing follows (log entry 5). -/
def Obligations.MotionTimersExpire : Prop :=
  ∀ (a : Actuator) (s : State), s.calm = true →
    let r := s.motionRec a
    let ends (o : Host.Outcome State Fault Refusal) (act : Activity) (k : FaultKind) (res : MotionResult) : Prop :=
      (s.aloneAt a = true → o = .next (close (s.ended a act k res)))
      ∧ (∀ b, s.handsOver a b = true → o = .next (close (s.passedOn a b act k res)))
      ∧ ∀ q ∈ s.runner.run, s.routineAt a q = true →
        o = .next (close ((s.ended a act k res).routineEnded q .aborted (.motion res)))
    (r.activity = .reversing → 500 ≤ r.reversal →
      (s.adm.isGranted motorEntry = true →
        exec (.reversalEnd a) s = .next (close (s.setRec a (r.running s.drive.state))))
      ∧ (s.adm.isGranted motorEntry = false →
        exec (.reversalEnd a) s = .next (close (s.setRec a { r with activity := .waitGrant, reversal := 0 }))))
    ∧ (r.activity ≠ .reversing ∨ r.reversal < 500 → exec (.reversalEnd a) s = .next (close s))
    ∧ (r.activity = .waitGrant → 30000 ≤ r.grantWait → ends (exec (.grantWaitExpiry a) s) .idle .none .noBudget)
    ∧ (r.activity ≠ .waitGrant ∨ r.grantWait < 30000 → exec (.grantWaitExpiry a) s = .next (close s))
    ∧ (r.activity = .moving → ends (exec (.stall a) s) .fault .stall .stall)
    ∧ (r.activity ≠ .moving → exec (.stall a) s = .next (close s))
    ∧ (r.activity = .moving → r.limit * 100 ≤ r.travel → ends (exec (.travelTime a) s) .fault .travelTime .travelTime)
    ∧ (r.activity ≠ .moving ∨ r.travel < r.limit * 100 → exec (.travelTime a) s = .next (close s))

/-- R122: STOP_MOTION, from any port, refuses RANGE and leaves records at rest; it stops the holder with result STOPPED, entry
1 released and MOTION raised, and takes a waiter out of its slot; for ALL the waiter goes before the holder. R112, R130,
R155: a waiting stow takes the driver of a stopped holder, and the routine that waits for the stopped motion ends ABORTED
with STOPPED. R123: CLEAR_FAULT refuses RANGE, changes nothing outside FAULT, is refused LOCKED while both switches stand
active, and else returns the record to IDLE with its last result kept. The record at rest has its grant wait and reversal
timers at 0 (DESIGN CHOICE, log entry 31). -/
def Obligations.MotionStopsAndFaultClears : Prop :=
  ∀ (p : PortId) (tag act : Byte) (s : State), s.open_ p = true →
    (2 < act.toNat → exec (.stopMotion p tag act) s = .next (concluded p .stopMotion tag .range [] s))
    ∧ (∀ a : Actuator, act.toNat = actuatorIndex a →
      ((s.motionRec a).inFlight = false → exec (.stopMotion p tag act) s = .next (concluded p .stopMotion tag .done [] s))
      ∧ ((s.motionRec a).inFlight = true → s.aloneAt a = true →
        exec (.stopMotion p tag act) s = .next (concluded p .stopMotion tag .done [] (s.ended a .idle .none .stopped)))
      ∧ ((s.motionRec a).inFlight = true → ∀ b, s.handsOver a b = true →
        exec (.stopMotion p tag act) s
          = .next (concluded p .stopMotion tag .done [] (s.passedOn a b .idle .none .stopped)))
      ∧ ((s.motionRec a).inFlight = true → ∀ q ∈ s.runner.run, s.routineAt a q = true →
        exec (.stopMotion p tag act) s = .next (concluded p .stopMotion tag .done []
          ((s.ended a .idle .none .stopped).routineEnded q .aborted (.motion .stopped))))
      ∧ ((s.motionRec a).inFlight = true → (s.motionRec a).requester ≠ some .routine → s.motion.waiter = some a →
          s.motion.holder = some (otherActuator a) →
          exec (.stopMotion p tag act) s = .next (concluded p .stopMotion tag .done []
            (raise .motion .motion (actuatorIndex a) (s.withMotion { s.motion with
              recs := s.motion.recs.set a ((s.motionRec a).resting .idle .none .stopped), waiter := none })))))
    ∧ (act = 2 → (s.motionRec .awning).inFlight = false → (s.motionRec .step).inFlight = false →
        s.motion.waiter = none →
        exec (.stopMotion p tag act) s = .next (concluded p .stopMotion tag .done [] s))
    ∧ (∀ a : Actuator, act = 2 → (s.motionRec a).inFlight = true → s.aloneAt a = true →
        (s.motionRec (otherActuator a)).inFlight = false →
        exec (.stopMotion p tag act) s = .next (concluded p .stopMotion tag .done [] (s.ended a .idle .none .stopped)))
    ∧ (∀ a : Actuator, act = 2 → (s.motionRec .awning).inFlight = true → (s.motionRec .step).inFlight = true →
        s.motion.holder = some a → s.motion.waiter = some (otherActuator a) →
        (s.motionRec .awning).requester ≠ some .routine → (s.motionRec .step).requester ≠ some .routine →
        s.passiveBut motorEntry = true →
        exec (.stopMotion p tag act) s = .next (concluded p .stopMotion tag .done []
          (raise .motion .motion (actuatorIndex a) (raise .motion .motion (actuatorIndex (otherActuator a))
            ((s.withMotion { s.motion with
              recs := { awning := (s.motionRec .awning).resting .idle .none .stopped
                        step := (s.motionRec .step).resting .idle .none .stopped }
              holder := none, waiter := none }).withAdm (s.adm.withdrawn motorEntry))))))
    ∧ (p = .panel →
      (1 < act.toNat → exec (.clearFault p tag act) s = .next (concluded p .clearFault tag .range [] s))
      ∧ (∀ a : Actuator, act.toNat = actuatorIndex a →
        ((s.motionRec a).activity ≠ .fault →
          exec (.clearFault p tag act) s = .next (concluded p .clearFault tag .done [] s))
        ∧ ((s.motionRec a).activity = .fault → (s.motionRec a).conflict = true →
          exec (.clearFault p tag act) s = .next (concluded p .clearFault tag .locked [] s))
        ∧ ((s.motionRec a).activity = .fault → (s.motionRec a).conflict = false →
          exec (.clearFault p tag act) s = .next (concluded p .clearFault tag .done []
            (s.setRec a { s.motionRec a with activity := .idle, fault := .none })))))

/-! ### Cabin lighting -/

/-- R143: the demand is the sum over the channels of the rated current times the square of the target over 65025, each rounded
up, and the floor the same of the targets held at the night level. R134, R135: SCENE refuses RANGE; it gives each channel
of its scope the scene's level as target and the step of R135, asks for the demand where it has changed, and answers DONE,
here with a load table that agrees with its lists. -/
def Obligations.SceneSetsTargets : Prop :=
  (∀ l : Light,
    let load (i : Fin 12) (level : Nat) : Nat := (l.rated[i] * (level * level) + 65024) / 65025
    l.demand = ((List.finRange 12).map fun i => load i l.channels[i].target).sum
      ∧ l.floor = ((List.finRange 12).map fun i => load i (min l.channels[i].target l.night)).sum
      ∧ l.floor ≤ l.demand)
  ∧ ∀ (p : PortId) (tag number scope : Byte) (s : State), s.open_ p = true → p ≠ .vehicle →
    (7 < number.toNat ∨ 2 < scope.toNat →
      exec (.scene p tag number scope) s = .next (concluded p .scene tag .range [] s))
    ∧ ∀ n : Fin 8, n.val = number.toNat → scope.toNat ≤ 2 →
      let c := s.settings.scenes[n]
      let l : Light := { s.light with channels := vtab fun i =>
        let x := s.light.channels[i]
        if scope = 0 ∨ (scope = 1 ∧ x.zone = .a) ∨ (scope = 2 ∧ x.zone = .b) then
          { x with
            target := c.levels[i]
            step := if c.fade = 0 then 255
              else max 1 (((max c.levels[i] x.present - min c.levels[i] x.present) + (c.fade * 10 - 1)) / (c.fade * 10)) }
        else x }
      s.adm.sound → ∀ t ∈ s.litTo l, exec (.scene p tag number scope) s = .next (concluded p .scene tag .done [] t)

/-- R135: a recall sets the step of each channel of its scope, 255 for a fade time of 0 and else the distance over ten times
the fade time, rounded up and at least 1; moved by it, a channel with levels up to 255 reaches its target in at most
ten boundaries for each tenth of a second, and in at most as many as the distance, and in one for a fade time of 0. -/
def Obligations.FadeReachesTargetInTime : Prop :=
  (∀ (c : SceneSettings) (scope : Scope) (l : Light) (i : Fin 12), inScope l.channels[i] scope = true →
      let target := c.levels[i]
      let present := l.channels[i].present
      let distance := max target present - min target present
      (recallScene c scope l).channels[i].step =
        if c.fade = 0 then 255 else max 1 ((distance + (c.fade * 10 - 1)) / (c.fade * 10)))
    ∧ ∀ (fade : Nat) (c : Channel), c.present ≤ 255 → c.target ≤ 255 → c.step = fadeStep fade c.target c.present →
      let distance := max c.target c.present - min c.target c.present
      (fade = 0 → c.move.present = c.target)
      ∧ (0 < fade → ∀ k, fade * 10 ≤ k ∨ distance ≤ k → (Nat.repeat Channel.move k c).present = c.target)

/-- R138, R139, R140: LEVELS refuses RANGE and LENGTH; it opens the window and mode where they differ, counting the staged
levels thrown away; DIRECT levels become targets with step 255 from the pointer on, round the window, the later over the
earlier; STAGED levels fill the row, whose last complete filling becomes the port's commit behind the others; the pointer
moves on, and the demand is asked for where it has changed, here with a load table that agrees with its lists. R187: a
DIRECT level above 0 fails an entry condition of parked sleep at its write, whatever a later one of the list makes of its
channel (log entry 22). That RANGE comes before LENGTH is DESIGN CHOICE (log entry 37). -/
def Obligations.LevelsWriteThroughWindow : Prop :=
  ∀ (p : PortId) (tag first last mode : Byte) (list : List Byte) (s : State), s.open_ p = true → p ≠ .vehicle →
    let lo := first.toNat
    let hi := last.toNat
    let size := hi + 1 - lo
    let n := list.length
    (hi < lo ∨ 11 < hi ∨ 1 < mode.toNat → n ≤ 45 →
      exec (.levels p tag first last mode list) s = .next (concluded p .levels tag .range [] s))
    ∧ (lo ≤ hi → hi ≤ 11 → mode.toNat ≤ 1 →
      (n = 0 ∨ (40 < n ∧ n ≤ 45) →
        exec (.levels p tag first last mode list) s = .next (concluded p .levels tag .length [] s))
      ∧ (1 ≤ n → n ≤ 40 →
        let x := s.light.ports.get p
        let same := x.window.any fun w => w.first == lo && w.last == hi && w.staged == (mode == 1)
        let held := (x.window.map (·.row)).getD []
        let at0 := if same then (x.window.map (·.pointer)).getD lo - lo else 0
        let lost := if same then x.discarded else if x.window.isSome then min 65535 (x.discarded + held.length)
          else x.discarded
        let row := (if same then held else []) ++ list.map (·.toNat)
        let full := row.length / size
        let moved (rest : List Nat) : Window :=
          { first := lo, last := hi, staged := mode == 1, pointer := lo + (at0 + n) % size, row := rest }
        let put (rest : List Nat) : PerPort LightPort :=
          s.light.ports.set p { window := some (moved rest), discarded := lost }
        (mode = 0 →
          (same = true → held = [] ∧ (x.window.map fun w => decide (lo ≤ w.pointer ∧ w.pointer ≤ hi)) = some true) →
          s.adm.sound → ∀ t ∈ s.litTo { s.light with
            ports := put []
            channels := vtab fun i =>
              let level := (List.range n).reverse.findSome? fun j =>
                if lo + (at0 + j) % size = i.val then (list[j]?).map (·.toNat) else none
              match level with
              | some v => { s.light.channels[i] with target := v, step := 255 }
              | none => s.light.channels[i] },
            exec (.levels p tag first last mode list) s = .next (concluded p .levels tag .done []
              (if list.any (· != 0) then conditionFails t else t)))
        ∧ (mode = 1 → (same = true → held.length = at0 ∧ at0 < size) →
          s.adm.sound → ∀ t ∈ s.litTo { s.light with
            ports := put (row.drop (full * size))
            commits := if full = 0 then s.light.commits
              else s.light.commits.filter (fun c => c.port != p)
                ++ [{ port := p, first := lo, levels := (row.drop ((full - 1) * size)).take size }] },
            exec (.levels p tag first last mode list) s = .next (concluded p .levels tag .done [] t))))

/-- R136, R137, R141, R143, R145, R146, R148: a frame boundary moves each channel, takes the settings of zones, rated currents
and night level, gives each channel of a pending commit the latest such level with step 255, asks for the demand where it
has changed, here with a load table that agrees with its lists, puts the grant handed in force and forms the duties, all 0
in LVD. In PARKED_SLEEP there is none. R187: a commit with a level above 0 fails an entry condition of parked sleep as it is
applied, whatever a later commit makes of its channels (log entry 22). -/
def Obligations.FrameBoundaryMovesAndDrives : Prop :=
  ∀ s : State, s.calm = true →
    let set := s.settings.light
    let latest (i : Nat) : Option Nat := s.light.commits.reverse.findSome? fun c =>
      if c.first ≤ i then c.levels[i - c.first]? else none
    let l : Light := { s.light with
      rated := set.rated, night := set.night, commits := []
      channels := vtab fun i =>
        let x := s.light.channels[i]
        { x with
          present := if x.present < x.target then min x.target (x.present + x.step)
            else if x.target < x.present then max x.target (x.present - x.step) else x.present
          zone := set.bounds.zoneOf i.val
          target := (latest i.val).getD x.target
          step := if (latest i.val).isSome then 255 else x.step } }
    let driven (m : Light) : Light := { m with
      forceFloor := m.handedFloor, forceElastic := m.handedElastic, dark := s.adm.lvd, frameTimer := 0
      channels := vtab fun i =>
        let d := m.channels[i].present * m.channels[i].present
        let fl := min m.channels[i].present set.night * min m.channels[i].present set.night
        { m.channels[i] with
          duty := if s.adm.lvd then 0
            else if m.askedElastic = 0 ∨ m.askedElastic ≤ m.handedElastic then d
            else fl + (d - fl) * m.handedElastic / m.askedElastic } }
    (s.sleep.state = .parkedSleep → exec .frameBoundary s = .next (close s))
    ∧ (s.sleep.state ≠ .parkedSleep → s.adm.sound → ∀ t ∈ s.litTo l, exec .frameBoundary s = .next (close
      ((if s.light.commits.any (fun c => (c.levels.take (12 - c.first)).any (· != 0)) then conditionFails t else t).withLight
        (driven t.light))))

/-! ### Routines -/

/-- R152, R154, R155, R156: CALL refuses RANGE for no routine or an empty one; with a routine running it waits in the slot,
refused BUSY where the slot is full; idle, the routine starts at step 1: a WAIT runs the step timer, a stow that starts
is waited on, a REQUIRE_PARKED outside PARKED aborts the routine. R153, R158, R159: WITHDRAW empties the slot of its own
port's call and else is refused ROLE; CANCEL on an idle runner changes nothing, is refused ROLE from a port that is
neither the caller's nor PANEL, and else ends the routine CANCELLED, its motion stopped. The grant wait and reversal timers
of the motion that starts or stops stand at 0 (DESIGN CHOICE, log entry 31). -/
def Obligations.RoutinesCalledAndCancelled : Prop :=
  ∀ (p : PortId) (tag number : Byte) (s : State), s.open_ p = true → p ≠ .vehicle →
    let ended (u : State) (r : Run) (kind : EndKind) (why : EndReason) : State :=
      raise .routineEnd .routine r.call.routine.val (u.withRunner { s.runner with
        run := none
        lastEnds := s.runner.lastEnds.set r.call.routine
          { kind := kind, step := r.step, reason := why, caller := some r.call.caller } })
    (7 < number.toNat → exec (.call p tag number) s = .next (concluded p .call tag .range [] s))
    ∧ (∀ n : Fin 8, n.val = number.toNat →
      let c : Call := { routine := n, caller := p }
      let steps := routineSteps s.settings n
      let begun (ph : RunPhase) : Run := { call := c, step := 1, phase := ph, timer := 0 }
      (steps = [] → exec (.call p tag number) s = .next (concluded p .call tag .range [] s))
      ∧ (steps ≠ [] → s.runner.run.isSome = true → s.runner.pendingCall.isSome = true →
        exec (.call p tag number) s = .next (concluded p .call tag .busy [] s))
      ∧ (steps ≠ [] → s.runner.run.isSome = true → s.runner.pendingCall = none →
        exec (.call p tag number) s = .next (concluded p .call tag .accepted []
          (s.withRunner { s.runner with pendingCall := some c })))
      ∧ (s.runner.run = none → s.runner.pendingCall = none →
        ((steps.head?.any fun k => match k with
            | .wait _ => true
            | _ => false) = true →
          exec (.call p tag number) s = .next (concluded p .call tag .accepted []
            (s.withRunner { s.runner with run := some (begun .onTimer) })))
        ∧ (steps.head? = some .requireParked → s.drive.state ≠ .parked →
          exec (.call p tag number) s = .next (concluded p .call tag .accepted []
            (ended s (begun .presenting) .aborted (.refusal .interlock))))
        ∧ ∀ a : Actuator, steps.head? = some (.move a .stow) → (s.motionRec a).activity = .idle →
          (s.motionRec a).atEnd .stow = false → s.motion.holder = none →
          s.adm.entries[motorEntry].state = .off → s.adm.uncounted motorEntry = true →
          exec (.call p tag number) s = .next (concluded p .call tag .accepted []
            (((s.withMotion { s.motion with
              recs := s.motion.recs.set a (((s.motionRec a).begun .stow .routine
                (s.settings.motion a).travelLimit).running s.drive.state)
              holder := some a }).withAdm (s.adm.entryGranted motorEntry .prot (motorRating a))).withRunner
                { s.runner with run := some (begun (.onMotion a)) }))))
    ∧ ((s.runner.pendingCall.map (·.caller)) ≠ some p →
      exec (.withdraw p tag) s = .next (concluded p .withdraw tag .role [] s))
    ∧ ((s.runner.pendingCall.map (·.caller)) = some p →
      exec (.withdraw p tag) s = .next (concluded p .withdraw tag .done []
        (s.withRunner { s.runner with pendingCall := none })))
    ∧ (s.runner.run = none → exec (.cancel p tag) s = .next (concluded p .cancel tag .done [] s))
    ∧ ∀ r ∈ s.runner.run,
      (p ≠ r.call.caller → p ≠ .panel → exec (.cancel p tag) s = .next (concluded p .cancel tag .role [] s))
      ∧ (p = r.call.caller ∨ p = .panel → s.runner.pendingCall = none →
        (r.phase = .onTimer →
          exec (.cancel p tag) s = .next (concluded p .cancel tag .done [] (ended s r .cancelled .request)))
        ∧ ∀ a : Actuator, r.phase = .onMotion a → (s.motionRec a).inFlight = true →
          s.motion.holder = some a → s.motion.waiter = none → s.passiveBut motorEntry = true →
          exec (.cancel p tag) s = .next (concluded p .cancel tag .done []
            (ended (s.ended a .idle .none .stopped) r .cancelled .request)))

/-- R154, R156, R157, R158: the step timer at its WAIT's argument, not while CRANKING, completes the WAIT: the routine ends DONE
after its last step with ROUTINE_END raised, a pending call then starting, and else its next step is presented, a further WAIT
starting the timer from 0. Where no step waits on the timer, or the timer stands short of the argument of the WAIT in flight,
as after a CANCEL taken first, nothing follows. -/
def Obligations.StepTimerCompletesWait : Prop :=
  ∀ s : State, s.calm = true →
    let isWait (k : RStep) : Bool := match k with
      | .wait _ => true
      | _ => false
    (s.runner.run = none → exec .waitStepExpiry s = .next (close s))
    ∧ ∀ r ∈ s.runner.run,
      let steps := routineSteps s.settings r.call.routine
      let limit : Option Nat := match steps[r.step - 1]? with
        | some (.wait n) => some (n * 1000)
        | _ => none
      (r.phase ≠ .onTimer ∨ s.drive.state = .cranking ∨ limit.all (fun n => decide (r.timer < n)) = true →
        exec .waitStepExpiry s = .next (close s))
      ∧ (r.phase = .onTimer → s.drive.state ≠ .cranking → limit.any (fun n => decide (n ≤ r.timer)) = true →
        (1 ≤ r.step → r.step = steps.length →
          (s.runner.pendingCall = none → exec .waitStepExpiry s = .next (close (s.routineEnded r .done .none)))
          ∧ ∀ c ∈ s.runner.pendingCall, (routineSteps s.settings c.routine).head?.any isWait = true →
            exec .waitStepExpiry s = .next (close ((s.routineEnded r .done .none).withRunner
              { (s.routineEnded r .done .none).runner with
                pendingCall := none
                run := some { call := c, step := 1, phase := .onTimer, timer := 0 } })))
        ∧ (steps[r.step]?.any isWait = true →
          exec .waitStepExpiry s = .next (close (s.withRunner { s.runner with
            run := some { r with step := r.step + 1, phase := .onTimer, timer := 0 } }))))

/-! ### Master links -/

/-- R162, R164, R165, R189: a start bit that is looked for wakes a sleeping part with the quiet-wake mark set; the line
standing high lets the receiver look; a character moves the assembler by R164's table, a parity or framing error or a LEN
above 48 discarding the frame as bad, a fourth zero in a row abandoning it as a resync, and a check that fails counting it
as bad; one whose check is right is the arrival of its frame. That a receiver not looking takes no start bit and no
character is DESIGN CHOICE (log entry 19). -/
def Obligations.ReceiverAssemblesFrames : Prop :=
  ∀ (p : PortId) (data : Byte) (parity stop : Bool) (s : State), s.calm = true →
    let x := s.ports.get p
    let ones := ((List.range 8).filter fun k => data.getLsbD k).length + (if parity then 1 else 0)
    let error := ones % 2 == 1 || !stop
    let line : RxLine := if stop then .looking else .waitHigh
    let put (y : Port) : State := s.setPort p { y with line := line }
    let sent := exec (.characterReceived p data parity stop) s
    (x.line = .looking → s.sleep.state = .parkedSleep →
      exec (.startBitWake p) s = .next (close ((s.withSleep { state := .awake, idle := 0, quietMark := true }).withLight
        { s.light with frameTimer := 0 })))
    ∧ (x.line ≠ .looking ∨ s.sleep.state ≠ .parkedSleep → exec (.startBitWake p) s = .next (close s))
    ∧ exec (.receiveLineHigh p) s = .next (close (s.setPort p { x with line := .looking }))
    ∧ (x.line ≠ .looking → sent = .next (close s))
    ∧ (x.line = .looking →
      (x.asm = .hunting → sent = .next (close (put { x with asm := if error = false ∧ data = 0xD3 then .sync1 else .hunting })))
      ∧ (x.asm = .sync1 → sent = .next (close (put { x with
          asm := if error then .hunting else if data = 0x5A then .inFrame [] 0
            else if data = 0xD3 then .sync1 else .hunting })))
      ∧ (∀ f ∈ x.asm.frame,
          let bytes := f.1
          let zeros := f.2
          let run := if data = 0 then zeros + 1 else 0
          let all := bytes ++ [data]
          let body := bytes.take (bytes.length - 1)
          let sum := (body.map (·.toNat)).sum % 65536
          let ends := all.length = 5 + (all.getD 2 0).toNat
          let bad := sent = .next (close (put { x with asm := .hunting, badFrames := min 65535 (x.badFrames + 1) }))
          (error = true → bad)
          ∧ (error = false → 4 ≤ run →
            sent = .next (close (put { x with asm := .hunting, resyncs := min 65535 (x.resyncs + 1) })))
          ∧ (error = false → run < 4 → all.length = 3 → 48 < data.toNat → bad)
          ∧ (error = false → run < 4 → all.length < 3 ∨ (all.length = 3 ∧ data.toNat ≤ 48) ∨ (3 < all.length ∧ ¬ ends) →
            sent = .next (close (put { x with asm := .inFrame all run })))
          ∧ (error = false → run < 4 → 3 < all.length → ends →
            sum ≠ (all.getD (all.length - 2) 0).toNat * 256 + data.toNat → bad)
          ∧ (error = false → run < 4 → 3 < all.length → ends → all.length ≤ 53 →
            sum = (all.getD (all.length - 2) 0).toNat * 256 + data.toNat →
            sent = exec (.frameArrival p (body.getD 0 0) (body.getD 1 0) (body.drop 3)) s)))

/-- R163, R171, R29, R142, R159: a break is counted once in a low period and resets the port, whose receiver then waits for
the high line: DETACHED, mailbox, answer place, notices and mark emptied, window and commits dropped, its pending call
withdrawn, and drive state UNKNOWN for VEHICLE's port, with a deploy in flight stopped. R174: a break that discards the
DONE of a RESTART brings its effect, and so does that DONE sent to its end. R166, R167, R169: a frame of a notice's or
answer's kind is bad; a request on a DETACHED port is answered NOT_ATTACHED; one that finds both slots full is an overrun,
and one behind a request in service enters slot B; a kind that is none, a role that does not admit it and a length that
does not fit are answered UNKNOWN, ROLE and LENGTH. R173, R169: a frame sent frees the transmitter, which takes the
answer, with a pending mark, and else a notice unless a request is in service. That a line low since power-on or RESTART
yields its break is DESIGN CHOICE (log entry 38), and so is that a break leaves the assembler as it is (log entry 45),
that the line stays in the low period whose break brought the RESTART's effect and a DETACHED PANEL follows R166 with a
RESTART in flight (log entry 18), and that the deploy stopped has its grant wait and reversal timers at 0 (log entry 31). -/
def Obligations.PortTakesFramesAndBreaks : Prop :=
  ∀ (p : PortId) (kind tag : Byte) (body : List Byte) (s : State), s.calm = true →
    let x := s.ports.get p
    let drive := p = .vehicle ∧ kind = 0x10
    let arrived := sleepFrame s
    let heard : Port := { x with asm := .hunting, line := .looking }
    let reply (code : Byte) : Port :=
      { heard with answer := some { kind := kind + 0x80, tag := tag, body := [code], restart := false } }
    let request := kind ≠ 0x7E ∧ kind.toNat < 0x80 ∧ body.length ≤ 48
    let got := exec (.frameArrival p kind tag body) s
    (x.line = .broken → exec (.lineBreak p) s = .next (close s))
    ∧ (x.line ≠ .broken →
      let cut : State := s.setPort p { x with
        attached := false, level := none, subscription := 0, line := .broken, slotA := none, slotB := none, answer := none
        queue := [], mark := false, breaks := min 65535 (x.breaks + 1) }
      ∀ v ∈ cut.portLost p,
        (x.holdsRestart = false → exec (.lineBreak p) s = .next (close v))
        ∧ (x.holdsRestart = true → ∃ w, exec .restartEffect v = .next w
          ∧ exec (.lineBreak p) s = .next (w.setPort p { w.ports.get p with line := .broken })))
    ∧ (¬ drive → kind = 0x7E ∨ 0x80 ≤ kind.toNat → body.length ≤ 48 →
      got = .next (close (arrived.setPort p { heard with badFrames := min 65535 (x.badFrames + 1) })))
    ∧ (request → x.attached = false → kind ≠ 1 → ¬ drive → x.answer = none →
      got = .next (close (arrived.setPort p (reply 0x10))))
    ∧ (request → x.attached = false → x.answer.isSome = true → ¬ drive →
      got = .next (close (arrived.setPort p
        { heard with overruns := min 65535 (x.overruns + 1), mark := true })))
    ∧ (request → x.attached = true → x.slotA.any (·.delivered) = true → ¬ drive →
      (x.slotB = none → got = .next (close (arrived.setPort p
        { heard with slotB := some { kind := kind, tag := tag, body := body } })))
      ∧ (x.slotB.isSome = true → got = .next (close (arrived.setPort p
        { heard with overruns := min 65535 (x.overruns + 1), mark := true }))))
    ∧ (request → s.open_ p = true → ¬ drive →
      (kindOf kind = none → got = .next (close (arrived.setPort p (reply 0x12))))
      ∧ ∀ k ∈ kindOf kind,
        (admits p k = false → got = .next (close (arrived.setPort p (reply 0x11))))
        ∧ (admits p k = true → k.lenFits body.length = false → got = .next (close (arrived.setPort p (reply 0x13)))))
    ∧ (x.sending = none → exec (.frameSent p) s = .next (close s))
    ∧ (∀ f ∈ x.sending, f.restart = true →
      exec (.frameSent p) s = exec .restartEffect (s.setPort p { x with sending := none }))
    ∧ ∀ f ∈ x.sending, f.restart = false → x.waiting = false →
      (∀ a ∈ x.answer, exec (.frameSent p) s = .next (close (s.setPort p { x with
        answer := none, mark := false
        sending := some { a with body := if x.mark then
          (match a.body with
            | [] => []
            | st :: rest => (st ||| 0x80) :: rest) else a.body } })))
      ∧ (x.answer = none → x.queue = [] ∨ x.slotA.isSome = true →
        exec (.frameSent p) s = .next (close (s.setPort p { x with sending := none })))
      ∧ (x.answer = none → x.slotA = none → ∀ n ∈ x.queue.head?,
        exec (.frameSent p) s = .next (close (s.setPort p { x with
          queue := x.queue.tail
          sending := some { kind := 0x7E, tag := 0, restart := false
                            body := [byte n.kind.code, byte n.cls.code, byte n.index] } })))

/-- R170: an ATTACH of a protocol level other than 1 or of a kind outside the fourteen is refused RANGE and leaves the port as
it was; else a DETACHED port becomes attached with level and subscription set, and an attached one, reset first, VEHICLE's
with the drive state UNKNOWN (R29); a MOTION raised in that reset does not reach the port (DESIGN CHOICE, log entry 39);
its DONE carries identity, revision, role and the settings-defaulted flag. R171: DETACH resets the port and is answered
DONE from the DETACHED port. R174: RESTART is answered DONE with the restart in flight. That an ATTACH on a DETACHED PANEL is
served with a RESTART in flight is DESIGN CHOICE (log entry 18), and so is that the deploy stopped by VEHICLE's reset has its
grant wait and reversal timers at 0 (log entry 31). -/
def Obligations.AttachDetachRestart : Prop :=
  ∀ (p : PortId) (tag level : Byte) (mask : Half) (s : State),
    let x := s.ports.get p
    let bad := level ≠ 1 ∨ 0x4000 ≤ mask.toNat
    let reply : List Byte := [0x57, 0x06, 0x01,
      (match p with
        | .panel => 0
        | .remote => 1
        | .vehicle => 2), if s.defaulted then 1 else 0]
    let off : State := s.setPort p { x with
      attached := false, level := none, subscription := 0, slotA := none, slotB := none, answer := none, queue := []
      mark := false }
    (s.open_ p = true →
      (bad → exec (.attach p tag level mask) s = .next (concluded p .attach tag .range [] s))
      ∧ (∀ v ∈ off.portLost p,
        (¬ bad → exec (.attach p tag level mask) s = .next (concluded p .attach tag .done reply
          (v.setPort p { v.ports.get p with attached := true, level := some 1, subscription := mask })))
        ∧ exec (.detach p tag) s = .next (concluded p .detach tag .done [] v))
      ∧ (p = .panel → exec (.restart p tag) s = .next (concluded p .restart tag .done [] { s with restarting := true })))
    ∧ (s.calm = true → x.attached = false → x.answer = none → x.slotA = none →
      (bad → exec (.attach p tag level mask) s = .next (concluded p .attach tag .range [] s))
      ∧ (¬ bad → exec (.attach p tag level mask) s = .next (concluded p .attach tag .done reply
        (s.setPort p { x with attached := true, level := some 1, subscription := mask }))))

/-! ### Records and settings -/

/-- R177: READ refuses RANGE for a class that is none, a first index beyond its class, and a count of 0 or above 4; else it
answers DONE with the count and the images of that many records from the first on, wrapping at the class's end, as many as
fit into 46 bytes, as the state shows them with the READ in service. R178, section 10.6: the images of LOAD, MOTION and HEATER
are their fields one after another, numbers high byte first, a temperature in two's complement, an absent value as all ones and
an absent temperature as 0x8000, each enumeration by its code; that a time is shown in 0.1 s rounded down is DESIGN CHOICE
(log entry 33). -/
def Obligations.ReadAnswersImages : Prop :=
  ∀ (p : PortId) (tag cls first count : Byte) (s : State), s.open_ p = true →
    let two (n : Nat) : List Byte := [byte (n / 256), byte n]
    let opt (o : Option Nat) : Byte := match o with
      | none => 0xFF
      | some n => byte n
    let temp (o : Option Int) : List Byte := match o with
      | none => [0x80, 0x00]
      | some v => two (v % 65536).toNat
    let refused := exec (.read p tag cls first count) s = .next (concluded p .read tag .range [] s)
    (classOf cls.toNat = none → refused)
    ∧ (∀ c ∈ classOf cls.toNat,
      (c.size ≤ first.toNat ∨ count = 0 ∨ 4 < count.toNat → refused)
      ∧ (first.toNat < c.size → 1 ≤ count.toNat → count.toNat ≤ 4 →
        let v := inService p (reqFrame .read tag [cls, first, count]) s
        let all := (List.range count.toNat).map fun k => image c ((first.toNat + k) % c.size) v
        let fitting := (List.range (count.toNat + 1)).filter fun j =>
          decide (((all.take j).map (·.length)).sum ≤ 46)
        let m := fitting.length - 1
        exec (.read p tag cls first count) s
          = .next (concluded p .read tag .done (byte m :: (all.take m).flatten) s)))
    ∧ (∀ e : Fin 20,
      let x := s.adm.entries[e]
      let light := e.val = 5
      image .load e.val s =
        ([byte e.val, [0, 2, 1, 1, 0, 3, 0].getD e.val 4,
          (match x.cls with
            | .prot => 0
            | .essential => 1
            | .comfort => 2
            | .deferrable => 3)] : List Byte) ++ two x.rating ++ ([opt (s.settings.rank e),
          (match x.state with
            | .off => 0
            | .waiting => 1
            | .granted => 2
            | .shed => 3)] : List Byte)
        ++ (if x.state = .granted ∨ (light ∧ 0 < x.grant) then two (x.grant + if light then s.adm.floorGrant else 0)
          else ([0xFF, 0xFF] : List Byte))
        ++ ([if e ∈ s.adm.queue then byte x.pass else 0xFF,
          if e ∈ s.adm.queue then byte (s.adm.queue.idxOf e + 1) else 0xFF] : List Byte)
        ++ if light then two s.adm.floorGrant ++ two s.adm.elasticWanted else ([0xFF, 0xFF, 0xFF, 0xFF] : List Byte))
    ∧ (∀ a : Actuator,
      let r := s.motionRec a
      let between := r.activity = .moving ∨ r.activity = .paused ∨ r.activity = .reversing
      image .motion (actuatorIndex a) s =
        ([if between then 2 else if r.stowedSw && r.deployedSw then 3 else if r.stowedSw then 0
            else if r.deployedSw then 1 else 2,
          (match r.activity with
            | .idle => 0
            | .waitDriver => 1
            | .waitGrant => 2
            | .moving => 3
            | .paused => 4
            | .reversing => 5
            | .fault => 6),
          (match r.direction with
            | none => 0xFF
            | some .deploy => 0
            | some .stow => 1),
          (match r.requester with
            | none => 0xFF
            | some .panel => 0
            | some .remote => 1
            | some .routine => 2
            | some .auto => 3),
          if s.motion.holder = some a then 1 else if s.motion.waiter = some a then 2 else 0,
          if r.stowedSw then 1 else 0, if r.deployedSw then 1 else 0] : List Byte)
        ++ two (r.travel / 100) ++ two (s.settings.motion a).travelLimit ++ two (s.settings.motion a).stallThreshold
        ++ two (r.stallTimer / 100) ++ two (r.grantWait / 100)
        ++ ([byte (r.reversal / 100),
          (match r.fault with
            | .none => 0
            | .travelTime => 1
            | .stall => 2
            | .switchConflict => 3),
          (match r.result with
            | .none => 0
            | .done => 1
            | .stopped => 2
            | .noBudget => 3
            | .shed => 4
            | .lvd => 5
            | .interlock => 6
            | .travelTime => 7
            | .stall => 8
            | .switchConflict => 9),
          (match r.mark with
            | .none => 0
            | .stowing => 1
            | .inFault => 2)] : List Byte))
    ∧ (let h := s.heater
      image .heater 0 s =
        ([(match h.mode with
            | .off => 0
            | .comfort => 1
            | .frostKeep => 2)] : List Byte) ++ temp (some s.settings.setpoint)
        ++ ([(match h.state with
            | .off => 0
            | .waitGrant => 1
            | .glow => 2
            | .ignite => 3
            | .run => 4
            | .purge => 5
            | .standby => 6
            | .lockout => 7)] : List Byte) ++ two (h.phase / 100)
        ++ ([(match h.reason with
            | .none => 0
            | .failedStart => 1
            | .flameOut => 2
            | .satisfied => 3
            | .modeOff => 4
            | .lvd => 5
            | .restart => 6), byte h.attempts,
          (match h.demand with
            | none => 0xFF
            | some .low => 0
            | some .medium => 1
            | some .high => 2), byte (h.flameTimer / 100),
          (match h.lockout with
            | .none => 0
            | .startFail => 1
            | .flameOut => 2)] : List Byte) ++ temp h.cabin
        ++ ([if h.cabin = none then 2 else if 0 < h.cabinAbsence then 1 else 0, if s.settings.frostGuard then 1 else 0] : List Byte)
        ++ temp s.frost.water
        ++ ([(match s.frost.source with
            | .waterBay => 0
            | .cabin => 1
            | .held => 2
            | .none => 3), if s.frost.keep then 1 else 0] : List Byte))

/-- R179: a WRITE is checked in order: a class that is none, an index beyond it and a mask that names no field of it are refused
RANGE, values that do not fit the masked fields LENGTH, a masked read-only field READ_ONLY; a mask of no field is answered
DONE, and during a save any other BUSY. None of these changes anything. The rows of the single classes are WRITEs of their
class. -/
def Obligations.WriteChecksInOrder : Prop :=
  ∀ (p : PortId) (tag cls index : Byte) (mask : Half) (values : List Byte) (s : State), s.open_ p = true →
    p ≠ .vehicle → values.length ≤ 44 →
    let answered (st : Status) := exec (.write p tag cls index mask values) s = .next (concluded p .write tag st [] s)
    (classOf cls.toNat = none → answered .range)
    ∧ (∀ c ∈ classOf cls.toNat,
      let forms := fieldForms c index.toNat
      let named := (List.range 16).filter fun k => mask.getLsbD k
      (c.size ≤ index.toNat ∨ (∃ k ∈ named, forms.length ≤ k) → answered .range)
      ∧ (index.toNat < c.size → (∀ k ∈ named, k < forms.length) →
        (dealValues mask 0 forms values = none → answered .length)
        ∧ (dealValues mask 0 forms values ≠ none →
          ((∃ k ∈ named, (forms[k]?.map (·.writable)) = some false) → answered .readOnly)
          ∧ (mask = 0 → answered .done)
          ∧ ((∀ k ∈ named, (forms[k]?.map (·.writable)) = some true) → mask ≠ 0 → s.saving.isSome = true →
            answered .busy))))
    ∧ exec (.writeBattery p tag index mask values) s = exec (.write p tag 14 index mask values) s
    ∧ exec (.writeBudget p tag index mask values) s = exec (.write p tag 6 index mask values) s
    ∧ exec (.writeLoad p tag index mask values) s = exec (.write p tag 5 index mask values) s
    ∧ exec (.writeTank p tag index mask values) s = exec (.write p tag 7 index mask values) s
    ∧ exec (.writeWater p tag index mask values) s = exec (.write p tag 8 index mask values) s
    ∧ exec (.writeHeater p tag index mask values) s = exec (.write p tag 9 index mask values) s
    ∧ exec (.writeMotion p tag index mask values) s = exec (.write p tag 10 index mask values) s
    ∧ exec (.writeChannel p tag index mask values) s = exec (.write p tag 11 index mask values) s
    ∧ exec (.writeScene p tag index mask values) s = exec (.write p tag 12 index mask values) s
    ∧ exec (.writeRoutine p tag index mask values) s = exec (.write p tag 13 index mask values) s

/-- R180, with R6, R40, R53, R68, R75, R89, R109, R121, R129, R131, R132, R133, R143, R150: what the owners make of a WRITE with no
save in flight: a value out of range or order is refused RANGE and a clamped one taken clamped; a class or rating written on
an output that is not OFF and the steps of a routine that runs or waits are BUSY, whether they change or not (DEDUCED, log
entry 16); a class and rating written on an OFF output show in its LOAD record at once (DEDUCED, log entry 26); a change of
chemistry loads its defaults; a changed tank loses its reading, its electrode readings standing until the next scan (DESIGN
CHOICE, log entry 34). -/
def Obligations.WritesTakeSettings : Prop :=
  ∀ (p : PortId) (tag i a b c d : Byte) (m : TankSettings) (steps : List RStep) (s : State), s.open_ p = true →
    p ≠ .vehicle → s.saving = none → s.settings.valid = true →
    let t := s.settings
    let x := a.toNat * 256 + b.toNat
    let y := c.toNat * 256 + d.toNat
    let done (u : State) := Host.Outcome.next (ρ := Refusal) (φ := Fault) (concluded p .write tag .done [] u)
    let refused (st : Status) := Host.Outcome.next (ρ := Refusal) (φ := Fault) (concluded p .write tag st [] s)
    (exec (.writeWater p tag 0 0x0040 [a]) s =
      if 1 ≤ a.toNat ∧ a.toNat ≤ 50 then done (s.withSettings { t with pulseVolume := a.toNat }) else refused .range)
    ∧ (exec (.writeBudget p tag 0 0x6000 [a, b, c, d]) s =
      if x ≤ 7000 ∧ 1000 ≤ y ∧ y ≤ 10000 then done (s.withSettings { t with bmax := x, bcap := y }) else refused .range)
    ∧ (exec (.writeBattery p tag 0 0x0001 [a]) s =
      if 1 < a.toNat then refused .range
      else
        let chem : Chemistry := if a = 0 then .lead else .lfp
        done (s.withSettings { t with
          battery := if chem = t.battery.chem then t.battery else .defaults chem t.battery.cnom }))
    ∧ (exec (.writeBattery p tag 0 0x0180 [a, b, c, d]) s =
      if x ≤ 1000 ∧ y < x then done (s.withSettings { t with battery := { t.battery with comfort := x, reserve := y } })
      else refused .range)
    ∧ (∀ e : Fin 20, e.val = i.toNat → ∀ h : 7 ≤ e.val,
      let g := t.loads.general[e.val - 7]
      let new : GeneralSettings :=
        { g with
          cls := if a = 0 then .prot else if a = 1 then .essential else if a = 2 then .comfort else .deferrable
          rating := b.toNat * 256 + c.toNat }
      let l : LoadSettings := { t.loads with general := t.loads.general.set (e.val - 7) new }
      exec (.writeLoad p tag i 0x000C [a, b, c]) s =
        if a = 0 ∨ 3 < a.toNat ∨ 2000 < new.rating ∨ allDistinct l.ranksInForce = false then refused .range
        else if s.adm.entries[e].state ≠ .off then refused .busy
        else done ((s.withSettings { t with loads := l }).withAdm
          (s.adm.setEntry e { s.adm.entries[e] with cls := new.cls, rating := new.rating })))
    ∧ (exec (.writeLoad p tag 5 0x0010 [a]) s =
      if 1 ≤ a.toNat ∧ a.toNat ≤ 20 ∧ allDistinct ({ t.loads with rank5 := a.toNat } : LoadSettings).ranksInForce = true
      then done (s.withSettings { t with loads := { t.loads with rank5 := a.toNat } }) else refused .range)
    ∧ (m.valid = true →
      let k := s.tanks.black
      exec (.writeTank p tag 2 0x0003 (byte m.count :: byte m.marks.length :: (m.marks.map be24).flatten)) s =
        if m = t.black then done s
        else done ((s.withSettings { t with black := m }).setTank .black { k with
          step := none, last := none, gap := false, full := false
          settle := if k.settle = .settling then .void else k.settle }))
    ∧ (s.frost.keep = false →
      exec (.writeHeater p tag 0 0x0802 [a, b, c]) s =
        if 1 < c.toNat then refused .range
        else done (s.withSettings { t with
          setpoint := min 300 (max 50 (if x < 32768 then (x : Int) else (x : Int) - 65536)), frostGuard := c == 1 }))
    ∧ (exec (.writeMotion p tag 1 0x0300 [a, b, c, d]) s =
      if 100 ≤ y ∧ y ≤ 5000 then
        done (s.withSettings { t with step := { travelLimit := min 600 (max 10 x), stallThreshold := y } })
      else refused .range)
    ∧ (∀ n : Fin 12, n.val = i.toNat → exec (.writeChannel p tag i 0x0001 [a, b]) s =
      if x ≤ 1000 then done (s.withSettings { t with light := { t.light with rated := t.light.rated.set n x } })
      else refused .range)
    ∧ (exec (.writeChannel p tag 0 0x03C0 [a, b, c, d]) s =
      if a.toNat ≤ b.toNat ∧ b.toNat < c.toNat ∧ c.toNat ≤ d.toNat ∧ d.toNat ≤ 11 then
        done (s.withSettings { t with light := { t.light with
          bounds := { aFirst := a.toNat, aLast := b.toNat, bFirst := c.toNat, bLast := d.toNat } } })
      else refused .range)
    ∧ exec (.writeChannel p tag 0 0x0400 [a, b]) s =
      done (s.withSettings { t with light := { t.light with night := min 255 x } })
    ∧ (∀ n : Fin 8, n.val = i.toNat →
      let new : SceneSettings :=
        { levels := (t.scenes[n].levels.set 0 a.toNat).set 11 b.toNat, fade := min 255 y }
      exec (.writeScene p tag i 0x1801 [a, b, c, d]) s =
        done (s.withSettings { t with scenes := t.scenes.set n new }))
    ∧ (∀ n : Fin 5, n.val + 3 = i.toNat → routineValid steps = true →
      exec (.writeRoutine p tag i 0x0004 (byte steps.length :: (steps.map fun k => be16 (stepCode k)).flatten)) s =
        if (s.runner.run.any fun r => r.call.routine.val == i.toNat) ∨
            (s.runner.pendingCall.any fun r => r.routine.val == i.toNat) then refused .busy
        else done (s.withSettings { t with routines := t.routines.set n steps }))

/-- R186: the WRITEs that the spec lists, each sent alone to a part with no save in flight, are judged as it lists them. The
settings are valid; TANK 1 has 4 electrodes; LOAD 9 is GRANTED where its rating is written. -/
def Obligations.WritesJudgedAsListed : Prop :=
  ∀ (p : PortId) (tag : Byte) (v : List Byte) (s : State), s.open_ p = true → p ≠ .vehicle → s.saving = none →
    s.settings.valid = true →
    let done (u : State) := Host.Outcome.next (ρ := Refusal) (φ := Fault) (concluded p .write tag .done [] u)
    let refused (st : Status) := Host.Outcome.next (ρ := Refusal) (φ := Fault) (concluded p .write tag st [] s)
    exec (.writeHeater p tag 0 0x0002 [0x01, 0x5E]) s = done (s.withSettings { s.settings with setpoint := 300 })
    ∧ (v.length = 3 → exec (.writeHeater p tag 0 0x0003 v) s = refused .readOnly)
    ∧ exec (.writeChannel p tag 0 0x03C0 [0, 5, 5, 11]) s = refused .range
    ∧ (v.length = 1 → exec (.writeChannel p tag 4 0x0040 v) s = refused .range)
    ∧ (s.settings.grey.count = 4 → exec (.writeTank p tag 1 0x0001 [5]) s = refused .range)
    ∧ exec (.writeMotion p tag 1 0x0300 [0x00, 0x04, 0x03, 0x84]) s =
      done (s.withSettings { s.settings with step := { travelLimit := 10, stallThreshold := 900 } })
    ∧ (s.adm.entries[(9 : Fin 20)].state = .granted →
      exec (.writeLoad p tag 9 0x0008 [0x01, 0xC2]) s = refused .busy)
    ∧ exec (.writeLoad p tag 9 0x0000 []) s = done s

/-- R184, R168, R181: SAVE during a save is refused BUSY; else it takes the whole of the working settings as its snapshot and
stays in slot A, unanswered. At the save's completion the store holds the snapshot with a good check, the
settings-defaulted flag is clear, and the SAVE still held is answered DONE; without a save nothing follows (log entry 5).
R187: the idle timer's end in SLEEP_PENDING enters PARKED_SLEEP; in another sleep state, and where a restart taken first
has left the timer short of 60 s, nothing follows. -/
def Obligations.SaveCompletesAndSleepBegins : Prop :=
  ∀ (p : PortId) (tag : Byte) (s : State),
    (s.open_ p = true → p ≠ .vehicle →
      (s.saving.isSome = true → exec (.save p tag) s = .next (concluded p .save tag .busy [] s))
      ∧ (s.saving = none → exec (.save p tag) s = .next (close { inService p (reqFrame .save tag []) s with
          saving := some { snapshot := s.settings, elapsed := 0 } })))
    ∧ (s.calm = true →
      (s.saving = none → exec .saveCompletion s = .next (close s))
      ∧ (∀ j ∈ s.saving,
        let kept : State := { s with store := .ofSettings j.snapshot, saving := none, defaulted := false }
        let x := s.ports.get p
        let unheld (q : PortId) : Prop := (s.ports.get q).slotA.any (·.delivered) = false
        (j.snapshot.valid = true → (Store.ofSettings j.snapshot).good = true)
        ∧ (unheld .panel ∧ unheld .remote ∧ unheld .vehicle → exec .saveCompletion s = .next (close kept))
        ∧ (∀ f ∈ x.slotA, f.delivered = true → x.answer = none → x.slotB = none → (∀ q, q ≠ p → unheld q) →
          exec .saveCompletion s = .next (close (kept.setPort p { x with
            slotA := none
            answer := some { kind := f.frame.kind + 0x80, tag := f.frame.tag, body := [0], restart := false } }))))
      ∧ (s.sleep.state = .sleepPending → 60000 ≤ s.sleep.idle → exec .parkedSleepEntry s
          = .next (close (s.withSleep { s.sleep with state := .parkedSleep, idle := 0 })))
      ∧ (s.sleep.state ≠ .sleepPending ∨ s.sleep.idle < 60000 → exec .parkedSleepEntry s = .next (close s)))

end
end

