-- ==== Sys2Proof/Laws/State.lean ====
section
/-! SUPPORT. One lemma for each field of the state and each update of a block, and the lemmas of the rows of ports,
actuators and tanks, so that no proof unfolds a record update. -/

namespace Sys2Proof.Machine

@[simp] theorem State.withSettings_powered (s : State) (x : Settings) : (s.withSettings x).powered = s.powered := rfl
@[simp] theorem State.withSettings_settings (s : State) (x : Settings) : (s.withSettings x).settings = x := rfl
@[simp] theorem State.withSettings_store (s : State) (x : Settings) : (s.withSettings x).store = s.store := rfl
@[simp] theorem State.withSettings_defaulted (s : State) (x : Settings) : (s.withSettings x).defaulted = s.defaulted := rfl
@[simp] theorem State.withSettings_saving (s : State) (x : Settings) : (s.withSettings x).saving = s.saving := rfl
@[simp] theorem State.withSettings_slowPeriod (s : State) (x : Settings) : (s.withSettings x).slowPeriod = s.slowPeriod := rfl
@[simp] theorem State.withSettings_account (s : State) (x : Settings) : (s.withSettings x).account = s.account := rfl
@[simp] theorem State.withSettings_drive (s : State) (x : Settings) : (s.withSettings x).drive = s.drive := rfl
@[simp] theorem State.withSettings_adm (s : State) (x : Settings) : (s.withSettings x).adm = s.adm := rfl
@[simp] theorem State.withSettings_tanks (s : State) (x : Settings) : (s.withSettings x).tanks = s.tanks := rfl
@[simp] theorem State.withSettings_water (s : State) (x : Settings) : (s.withSettings x).water = s.water := rfl
@[simp] theorem State.withSettings_heater (s : State) (x : Settings) : (s.withSettings x).heater = s.heater := rfl
@[simp] theorem State.withSettings_frost (s : State) (x : Settings) : (s.withSettings x).frost = s.frost := rfl
@[simp] theorem State.withSettings_motion (s : State) (x : Settings) : (s.withSettings x).motion = s.motion := rfl
@[simp] theorem State.withSettings_light (s : State) (x : Settings) : (s.withSettings x).light = s.light := rfl
@[simp] theorem State.withSettings_runner (s : State) (x : Settings) : (s.withSettings x).runner = s.runner := rfl
@[simp] theorem State.withSettings_ports (s : State) (x : Settings) : (s.withSettings x).ports = s.ports := rfl
@[simp] theorem State.withSettings_restarting (s : State) (x : Settings) : (s.withSettings x).restarting = s.restarting := rfl
@[simp] theorem State.withSettings_sleep (s : State) (x : Settings) : (s.withSettings x).sleep = s.sleep := rfl
@[simp] theorem State.withSettings_pending (s : State) (x : Settings) : (s.withSettings x).pending = s.pending := rfl

@[simp] theorem State.withAccount_powered (s : State) (x : Account) : (s.withAccount x).powered = s.powered := rfl
@[simp] theorem State.withAccount_settings (s : State) (x : Account) : (s.withAccount x).settings = s.settings := rfl
@[simp] theorem State.withAccount_store (s : State) (x : Account) : (s.withAccount x).store = s.store := rfl
@[simp] theorem State.withAccount_defaulted (s : State) (x : Account) : (s.withAccount x).defaulted = s.defaulted := rfl
@[simp] theorem State.withAccount_saving (s : State) (x : Account) : (s.withAccount x).saving = s.saving := rfl
@[simp] theorem State.withAccount_slowPeriod (s : State) (x : Account) : (s.withAccount x).slowPeriod = s.slowPeriod := rfl
@[simp] theorem State.withAccount_account (s : State) (x : Account) : (s.withAccount x).account = x := rfl
@[simp] theorem State.withAccount_drive (s : State) (x : Account) : (s.withAccount x).drive = s.drive := rfl
@[simp] theorem State.withAccount_adm (s : State) (x : Account) : (s.withAccount x).adm = s.adm := rfl
@[simp] theorem State.withAccount_tanks (s : State) (x : Account) : (s.withAccount x).tanks = s.tanks := rfl
@[simp] theorem State.withAccount_water (s : State) (x : Account) : (s.withAccount x).water = s.water := rfl
@[simp] theorem State.withAccount_heater (s : State) (x : Account) : (s.withAccount x).heater = s.heater := rfl
@[simp] theorem State.withAccount_frost (s : State) (x : Account) : (s.withAccount x).frost = s.frost := rfl
@[simp] theorem State.withAccount_motion (s : State) (x : Account) : (s.withAccount x).motion = s.motion := rfl
@[simp] theorem State.withAccount_light (s : State) (x : Account) : (s.withAccount x).light = s.light := rfl
@[simp] theorem State.withAccount_runner (s : State) (x : Account) : (s.withAccount x).runner = s.runner := rfl
@[simp] theorem State.withAccount_ports (s : State) (x : Account) : (s.withAccount x).ports = s.ports := rfl
@[simp] theorem State.withAccount_restarting (s : State) (x : Account) : (s.withAccount x).restarting = s.restarting := rfl
@[simp] theorem State.withAccount_sleep (s : State) (x : Account) : (s.withAccount x).sleep = s.sleep := rfl
@[simp] theorem State.withAccount_pending (s : State) (x : Account) : (s.withAccount x).pending = s.pending := rfl

@[simp] theorem State.withDrive_powered (s : State) (x : DriveSide) : (s.withDrive x).powered = s.powered := rfl
@[simp] theorem State.withDrive_settings (s : State) (x : DriveSide) : (s.withDrive x).settings = s.settings := rfl
@[simp] theorem State.withDrive_store (s : State) (x : DriveSide) : (s.withDrive x).store = s.store := rfl
@[simp] theorem State.withDrive_defaulted (s : State) (x : DriveSide) : (s.withDrive x).defaulted = s.defaulted := rfl
@[simp] theorem State.withDrive_saving (s : State) (x : DriveSide) : (s.withDrive x).saving = s.saving := rfl
@[simp] theorem State.withDrive_slowPeriod (s : State) (x : DriveSide) : (s.withDrive x).slowPeriod = s.slowPeriod := rfl
@[simp] theorem State.withDrive_account (s : State) (x : DriveSide) : (s.withDrive x).account = s.account := rfl
@[simp] theorem State.withDrive_drive (s : State) (x : DriveSide) : (s.withDrive x).drive = x := rfl
@[simp] theorem State.withDrive_adm (s : State) (x : DriveSide) : (s.withDrive x).adm = s.adm := rfl
@[simp] theorem State.withDrive_tanks (s : State) (x : DriveSide) : (s.withDrive x).tanks = s.tanks := rfl
@[simp] theorem State.withDrive_water (s : State) (x : DriveSide) : (s.withDrive x).water = s.water := rfl
@[simp] theorem State.withDrive_heater (s : State) (x : DriveSide) : (s.withDrive x).heater = s.heater := rfl
@[simp] theorem State.withDrive_frost (s : State) (x : DriveSide) : (s.withDrive x).frost = s.frost := rfl
@[simp] theorem State.withDrive_motion (s : State) (x : DriveSide) : (s.withDrive x).motion = s.motion := rfl
@[simp] theorem State.withDrive_light (s : State) (x : DriveSide) : (s.withDrive x).light = s.light := rfl
@[simp] theorem State.withDrive_runner (s : State) (x : DriveSide) : (s.withDrive x).runner = s.runner := rfl
@[simp] theorem State.withDrive_ports (s : State) (x : DriveSide) : (s.withDrive x).ports = s.ports := rfl
@[simp] theorem State.withDrive_restarting (s : State) (x : DriveSide) : (s.withDrive x).restarting = s.restarting := rfl
@[simp] theorem State.withDrive_sleep (s : State) (x : DriveSide) : (s.withDrive x).sleep = s.sleep := rfl
@[simp] theorem State.withDrive_pending (s : State) (x : DriveSide) : (s.withDrive x).pending = s.pending := rfl

@[simp] theorem State.withAdm_powered (s : State) (x : Adm) : (s.withAdm x).powered = s.powered := rfl
@[simp] theorem State.withAdm_settings (s : State) (x : Adm) : (s.withAdm x).settings = s.settings := rfl
@[simp] theorem State.withAdm_store (s : State) (x : Adm) : (s.withAdm x).store = s.store := rfl
@[simp] theorem State.withAdm_defaulted (s : State) (x : Adm) : (s.withAdm x).defaulted = s.defaulted := rfl
@[simp] theorem State.withAdm_saving (s : State) (x : Adm) : (s.withAdm x).saving = s.saving := rfl
@[simp] theorem State.withAdm_slowPeriod (s : State) (x : Adm) : (s.withAdm x).slowPeriod = s.slowPeriod := rfl
@[simp] theorem State.withAdm_account (s : State) (x : Adm) : (s.withAdm x).account = s.account := rfl
@[simp] theorem State.withAdm_drive (s : State) (x : Adm) : (s.withAdm x).drive = s.drive := rfl
@[simp] theorem State.withAdm_adm (s : State) (x : Adm) : (s.withAdm x).adm = x := rfl
@[simp] theorem State.withAdm_tanks (s : State) (x : Adm) : (s.withAdm x).tanks = s.tanks := rfl
@[simp] theorem State.withAdm_water (s : State) (x : Adm) : (s.withAdm x).water = s.water := rfl
@[simp] theorem State.withAdm_heater (s : State) (x : Adm) : (s.withAdm x).heater = s.heater := rfl
@[simp] theorem State.withAdm_frost (s : State) (x : Adm) : (s.withAdm x).frost = s.frost := rfl
@[simp] theorem State.withAdm_motion (s : State) (x : Adm) : (s.withAdm x).motion = s.motion := rfl
@[simp] theorem State.withAdm_light (s : State) (x : Adm) : (s.withAdm x).light = s.light := rfl
@[simp] theorem State.withAdm_runner (s : State) (x : Adm) : (s.withAdm x).runner = s.runner := rfl
@[simp] theorem State.withAdm_ports (s : State) (x : Adm) : (s.withAdm x).ports = s.ports := rfl
@[simp] theorem State.withAdm_restarting (s : State) (x : Adm) : (s.withAdm x).restarting = s.restarting := rfl
@[simp] theorem State.withAdm_sleep (s : State) (x : Adm) : (s.withAdm x).sleep = s.sleep := rfl
@[simp] theorem State.withAdm_pending (s : State) (x : Adm) : (s.withAdm x).pending = s.pending := rfl

@[simp] theorem State.withTanks_powered (s : State) (x : PerTank TankRec) : (s.withTanks x).powered = s.powered := rfl
@[simp] theorem State.withTanks_settings (s : State) (x : PerTank TankRec) : (s.withTanks x).settings = s.settings := rfl
@[simp] theorem State.withTanks_store (s : State) (x : PerTank TankRec) : (s.withTanks x).store = s.store := rfl
@[simp] theorem State.withTanks_defaulted (s : State) (x : PerTank TankRec) : (s.withTanks x).defaulted = s.defaulted := rfl
@[simp] theorem State.withTanks_saving (s : State) (x : PerTank TankRec) : (s.withTanks x).saving = s.saving := rfl
@[simp] theorem State.withTanks_slowPeriod (s : State) (x : PerTank TankRec) : (s.withTanks x).slowPeriod = s.slowPeriod := rfl
@[simp] theorem State.withTanks_account (s : State) (x : PerTank TankRec) : (s.withTanks x).account = s.account := rfl
@[simp] theorem State.withTanks_drive (s : State) (x : PerTank TankRec) : (s.withTanks x).drive = s.drive := rfl
@[simp] theorem State.withTanks_adm (s : State) (x : PerTank TankRec) : (s.withTanks x).adm = s.adm := rfl
@[simp] theorem State.withTanks_tanks (s : State) (x : PerTank TankRec) : (s.withTanks x).tanks = x := rfl
@[simp] theorem State.withTanks_water (s : State) (x : PerTank TankRec) : (s.withTanks x).water = s.water := rfl
@[simp] theorem State.withTanks_heater (s : State) (x : PerTank TankRec) : (s.withTanks x).heater = s.heater := rfl
@[simp] theorem State.withTanks_frost (s : State) (x : PerTank TankRec) : (s.withTanks x).frost = s.frost := rfl
@[simp] theorem State.withTanks_motion (s : State) (x : PerTank TankRec) : (s.withTanks x).motion = s.motion := rfl
@[simp] theorem State.withTanks_light (s : State) (x : PerTank TankRec) : (s.withTanks x).light = s.light := rfl
@[simp] theorem State.withTanks_runner (s : State) (x : PerTank TankRec) : (s.withTanks x).runner = s.runner := rfl
@[simp] theorem State.withTanks_ports (s : State) (x : PerTank TankRec) : (s.withTanks x).ports = s.ports := rfl
@[simp] theorem State.withTanks_restarting (s : State) (x : PerTank TankRec) : (s.withTanks x).restarting = s.restarting := rfl
@[simp] theorem State.withTanks_sleep (s : State) (x : PerTank TankRec) : (s.withTanks x).sleep = s.sleep := rfl
@[simp] theorem State.withTanks_pending (s : State) (x : PerTank TankRec) : (s.withTanks x).pending = s.pending := rfl

@[simp] theorem State.withWater_powered (s : State) (x : Water) : (s.withWater x).powered = s.powered := rfl
@[simp] theorem State.withWater_settings (s : State) (x : Water) : (s.withWater x).settings = s.settings := rfl
@[simp] theorem State.withWater_store (s : State) (x : Water) : (s.withWater x).store = s.store := rfl
@[simp] theorem State.withWater_defaulted (s : State) (x : Water) : (s.withWater x).defaulted = s.defaulted := rfl
@[simp] theorem State.withWater_saving (s : State) (x : Water) : (s.withWater x).saving = s.saving := rfl
@[simp] theorem State.withWater_slowPeriod (s : State) (x : Water) : (s.withWater x).slowPeriod = s.slowPeriod := rfl
@[simp] theorem State.withWater_account (s : State) (x : Water) : (s.withWater x).account = s.account := rfl
@[simp] theorem State.withWater_drive (s : State) (x : Water) : (s.withWater x).drive = s.drive := rfl
@[simp] theorem State.withWater_adm (s : State) (x : Water) : (s.withWater x).adm = s.adm := rfl
@[simp] theorem State.withWater_tanks (s : State) (x : Water) : (s.withWater x).tanks = s.tanks := rfl
@[simp] theorem State.withWater_water (s : State) (x : Water) : (s.withWater x).water = x := rfl
@[simp] theorem State.withWater_heater (s : State) (x : Water) : (s.withWater x).heater = s.heater := rfl
@[simp] theorem State.withWater_frost (s : State) (x : Water) : (s.withWater x).frost = s.frost := rfl
@[simp] theorem State.withWater_motion (s : State) (x : Water) : (s.withWater x).motion = s.motion := rfl
@[simp] theorem State.withWater_light (s : State) (x : Water) : (s.withWater x).light = s.light := rfl
@[simp] theorem State.withWater_runner (s : State) (x : Water) : (s.withWater x).runner = s.runner := rfl
@[simp] theorem State.withWater_ports (s : State) (x : Water) : (s.withWater x).ports = s.ports := rfl
@[simp] theorem State.withWater_restarting (s : State) (x : Water) : (s.withWater x).restarting = s.restarting := rfl
@[simp] theorem State.withWater_sleep (s : State) (x : Water) : (s.withWater x).sleep = s.sleep := rfl
@[simp] theorem State.withWater_pending (s : State) (x : Water) : (s.withWater x).pending = s.pending := rfl

@[simp] theorem State.withHeater_powered (s : State) (x : Heater) : (s.withHeater x).powered = s.powered := rfl
@[simp] theorem State.withHeater_settings (s : State) (x : Heater) : (s.withHeater x).settings = s.settings := rfl
@[simp] theorem State.withHeater_store (s : State) (x : Heater) : (s.withHeater x).store = s.store := rfl
@[simp] theorem State.withHeater_defaulted (s : State) (x : Heater) : (s.withHeater x).defaulted = s.defaulted := rfl
@[simp] theorem State.withHeater_saving (s : State) (x : Heater) : (s.withHeater x).saving = s.saving := rfl
@[simp] theorem State.withHeater_slowPeriod (s : State) (x : Heater) : (s.withHeater x).slowPeriod = s.slowPeriod := rfl
@[simp] theorem State.withHeater_account (s : State) (x : Heater) : (s.withHeater x).account = s.account := rfl
@[simp] theorem State.withHeater_drive (s : State) (x : Heater) : (s.withHeater x).drive = s.drive := rfl
@[simp] theorem State.withHeater_adm (s : State) (x : Heater) : (s.withHeater x).adm = s.adm := rfl
@[simp] theorem State.withHeater_tanks (s : State) (x : Heater) : (s.withHeater x).tanks = s.tanks := rfl
@[simp] theorem State.withHeater_water (s : State) (x : Heater) : (s.withHeater x).water = s.water := rfl
@[simp] theorem State.withHeater_heater (s : State) (x : Heater) : (s.withHeater x).heater = x := rfl
@[simp] theorem State.withHeater_frost (s : State) (x : Heater) : (s.withHeater x).frost = s.frost := rfl
@[simp] theorem State.withHeater_motion (s : State) (x : Heater) : (s.withHeater x).motion = s.motion := rfl
@[simp] theorem State.withHeater_light (s : State) (x : Heater) : (s.withHeater x).light = s.light := rfl
@[simp] theorem State.withHeater_runner (s : State) (x : Heater) : (s.withHeater x).runner = s.runner := rfl
@[simp] theorem State.withHeater_ports (s : State) (x : Heater) : (s.withHeater x).ports = s.ports := rfl
@[simp] theorem State.withHeater_restarting (s : State) (x : Heater) : (s.withHeater x).restarting = s.restarting := rfl
@[simp] theorem State.withHeater_sleep (s : State) (x : Heater) : (s.withHeater x).sleep = s.sleep := rfl
@[simp] theorem State.withHeater_pending (s : State) (x : Heater) : (s.withHeater x).pending = s.pending := rfl

@[simp] theorem State.withFrost_powered (s : State) (x : Frost) : (s.withFrost x).powered = s.powered := rfl
@[simp] theorem State.withFrost_settings (s : State) (x : Frost) : (s.withFrost x).settings = s.settings := rfl
@[simp] theorem State.withFrost_store (s : State) (x : Frost) : (s.withFrost x).store = s.store := rfl
@[simp] theorem State.withFrost_defaulted (s : State) (x : Frost) : (s.withFrost x).defaulted = s.defaulted := rfl
@[simp] theorem State.withFrost_saving (s : State) (x : Frost) : (s.withFrost x).saving = s.saving := rfl
@[simp] theorem State.withFrost_slowPeriod (s : State) (x : Frost) : (s.withFrost x).slowPeriod = s.slowPeriod := rfl
@[simp] theorem State.withFrost_account (s : State) (x : Frost) : (s.withFrost x).account = s.account := rfl
@[simp] theorem State.withFrost_drive (s : State) (x : Frost) : (s.withFrost x).drive = s.drive := rfl
@[simp] theorem State.withFrost_adm (s : State) (x : Frost) : (s.withFrost x).adm = s.adm := rfl
@[simp] theorem State.withFrost_tanks (s : State) (x : Frost) : (s.withFrost x).tanks = s.tanks := rfl
@[simp] theorem State.withFrost_water (s : State) (x : Frost) : (s.withFrost x).water = s.water := rfl
@[simp] theorem State.withFrost_heater (s : State) (x : Frost) : (s.withFrost x).heater = s.heater := rfl
@[simp] theorem State.withFrost_frost (s : State) (x : Frost) : (s.withFrost x).frost = x := rfl
@[simp] theorem State.withFrost_motion (s : State) (x : Frost) : (s.withFrost x).motion = s.motion := rfl
@[simp] theorem State.withFrost_light (s : State) (x : Frost) : (s.withFrost x).light = s.light := rfl
@[simp] theorem State.withFrost_runner (s : State) (x : Frost) : (s.withFrost x).runner = s.runner := rfl
@[simp] theorem State.withFrost_ports (s : State) (x : Frost) : (s.withFrost x).ports = s.ports := rfl
@[simp] theorem State.withFrost_restarting (s : State) (x : Frost) : (s.withFrost x).restarting = s.restarting := rfl
@[simp] theorem State.withFrost_sleep (s : State) (x : Frost) : (s.withFrost x).sleep = s.sleep := rfl
@[simp] theorem State.withFrost_pending (s : State) (x : Frost) : (s.withFrost x).pending = s.pending := rfl

@[simp] theorem State.withMotion_powered (s : State) (x : Motion) : (s.withMotion x).powered = s.powered := rfl
@[simp] theorem State.withMotion_settings (s : State) (x : Motion) : (s.withMotion x).settings = s.settings := rfl
@[simp] theorem State.withMotion_store (s : State) (x : Motion) : (s.withMotion x).store = s.store := rfl
@[simp] theorem State.withMotion_defaulted (s : State) (x : Motion) : (s.withMotion x).defaulted = s.defaulted := rfl
@[simp] theorem State.withMotion_saving (s : State) (x : Motion) : (s.withMotion x).saving = s.saving := rfl
@[simp] theorem State.withMotion_slowPeriod (s : State) (x : Motion) : (s.withMotion x).slowPeriod = s.slowPeriod := rfl
@[simp] theorem State.withMotion_account (s : State) (x : Motion) : (s.withMotion x).account = s.account := rfl
@[simp] theorem State.withMotion_drive (s : State) (x : Motion) : (s.withMotion x).drive = s.drive := rfl
@[simp] theorem State.withMotion_adm (s : State) (x : Motion) : (s.withMotion x).adm = s.adm := rfl
@[simp] theorem State.withMotion_tanks (s : State) (x : Motion) : (s.withMotion x).tanks = s.tanks := rfl
@[simp] theorem State.withMotion_water (s : State) (x : Motion) : (s.withMotion x).water = s.water := rfl
@[simp] theorem State.withMotion_heater (s : State) (x : Motion) : (s.withMotion x).heater = s.heater := rfl
@[simp] theorem State.withMotion_frost (s : State) (x : Motion) : (s.withMotion x).frost = s.frost := rfl
@[simp] theorem State.withMotion_motion (s : State) (x : Motion) : (s.withMotion x).motion = x := rfl
@[simp] theorem State.withMotion_light (s : State) (x : Motion) : (s.withMotion x).light = s.light := rfl
@[simp] theorem State.withMotion_runner (s : State) (x : Motion) : (s.withMotion x).runner = s.runner := rfl
@[simp] theorem State.withMotion_ports (s : State) (x : Motion) : (s.withMotion x).ports = s.ports := rfl
@[simp] theorem State.withMotion_restarting (s : State) (x : Motion) : (s.withMotion x).restarting = s.restarting := rfl
@[simp] theorem State.withMotion_sleep (s : State) (x : Motion) : (s.withMotion x).sleep = s.sleep := rfl
@[simp] theorem State.withMotion_pending (s : State) (x : Motion) : (s.withMotion x).pending = s.pending := rfl

@[simp] theorem State.withLight_powered (s : State) (x : Light) : (s.withLight x).powered = s.powered := rfl
@[simp] theorem State.withLight_settings (s : State) (x : Light) : (s.withLight x).settings = s.settings := rfl
@[simp] theorem State.withLight_store (s : State) (x : Light) : (s.withLight x).store = s.store := rfl
@[simp] theorem State.withLight_defaulted (s : State) (x : Light) : (s.withLight x).defaulted = s.defaulted := rfl
@[simp] theorem State.withLight_saving (s : State) (x : Light) : (s.withLight x).saving = s.saving := rfl
@[simp] theorem State.withLight_slowPeriod (s : State) (x : Light) : (s.withLight x).slowPeriod = s.slowPeriod := rfl
@[simp] theorem State.withLight_account (s : State) (x : Light) : (s.withLight x).account = s.account := rfl
@[simp] theorem State.withLight_drive (s : State) (x : Light) : (s.withLight x).drive = s.drive := rfl
@[simp] theorem State.withLight_adm (s : State) (x : Light) : (s.withLight x).adm = s.adm := rfl
@[simp] theorem State.withLight_tanks (s : State) (x : Light) : (s.withLight x).tanks = s.tanks := rfl
@[simp] theorem State.withLight_water (s : State) (x : Light) : (s.withLight x).water = s.water := rfl
@[simp] theorem State.withLight_heater (s : State) (x : Light) : (s.withLight x).heater = s.heater := rfl
@[simp] theorem State.withLight_frost (s : State) (x : Light) : (s.withLight x).frost = s.frost := rfl
@[simp] theorem State.withLight_motion (s : State) (x : Light) : (s.withLight x).motion = s.motion := rfl
@[simp] theorem State.withLight_light (s : State) (x : Light) : (s.withLight x).light = x := rfl
@[simp] theorem State.withLight_runner (s : State) (x : Light) : (s.withLight x).runner = s.runner := rfl
@[simp] theorem State.withLight_ports (s : State) (x : Light) : (s.withLight x).ports = s.ports := rfl
@[simp] theorem State.withLight_restarting (s : State) (x : Light) : (s.withLight x).restarting = s.restarting := rfl
@[simp] theorem State.withLight_sleep (s : State) (x : Light) : (s.withLight x).sleep = s.sleep := rfl
@[simp] theorem State.withLight_pending (s : State) (x : Light) : (s.withLight x).pending = s.pending := rfl

@[simp] theorem State.withRunner_powered (s : State) (x : Runner) : (s.withRunner x).powered = s.powered := rfl
@[simp] theorem State.withRunner_settings (s : State) (x : Runner) : (s.withRunner x).settings = s.settings := rfl
@[simp] theorem State.withRunner_store (s : State) (x : Runner) : (s.withRunner x).store = s.store := rfl
@[simp] theorem State.withRunner_defaulted (s : State) (x : Runner) : (s.withRunner x).defaulted = s.defaulted := rfl
@[simp] theorem State.withRunner_saving (s : State) (x : Runner) : (s.withRunner x).saving = s.saving := rfl
@[simp] theorem State.withRunner_slowPeriod (s : State) (x : Runner) : (s.withRunner x).slowPeriod = s.slowPeriod := rfl
@[simp] theorem State.withRunner_account (s : State) (x : Runner) : (s.withRunner x).account = s.account := rfl
@[simp] theorem State.withRunner_drive (s : State) (x : Runner) : (s.withRunner x).drive = s.drive := rfl
@[simp] theorem State.withRunner_adm (s : State) (x : Runner) : (s.withRunner x).adm = s.adm := rfl
@[simp] theorem State.withRunner_tanks (s : State) (x : Runner) : (s.withRunner x).tanks = s.tanks := rfl
@[simp] theorem State.withRunner_water (s : State) (x : Runner) : (s.withRunner x).water = s.water := rfl
@[simp] theorem State.withRunner_heater (s : State) (x : Runner) : (s.withRunner x).heater = s.heater := rfl
@[simp] theorem State.withRunner_frost (s : State) (x : Runner) : (s.withRunner x).frost = s.frost := rfl
@[simp] theorem State.withRunner_motion (s : State) (x : Runner) : (s.withRunner x).motion = s.motion := rfl
@[simp] theorem State.withRunner_light (s : State) (x : Runner) : (s.withRunner x).light = s.light := rfl
@[simp] theorem State.withRunner_runner (s : State) (x : Runner) : (s.withRunner x).runner = x := rfl
@[simp] theorem State.withRunner_ports (s : State) (x : Runner) : (s.withRunner x).ports = s.ports := rfl
@[simp] theorem State.withRunner_restarting (s : State) (x : Runner) : (s.withRunner x).restarting = s.restarting := rfl
@[simp] theorem State.withRunner_sleep (s : State) (x : Runner) : (s.withRunner x).sleep = s.sleep := rfl
@[simp] theorem State.withRunner_pending (s : State) (x : Runner) : (s.withRunner x).pending = s.pending := rfl

@[simp] theorem State.withPorts_powered (s : State) (x : PerPort Port) : (s.withPorts x).powered = s.powered := rfl
@[simp] theorem State.withPorts_settings (s : State) (x : PerPort Port) : (s.withPorts x).settings = s.settings := rfl
@[simp] theorem State.withPorts_store (s : State) (x : PerPort Port) : (s.withPorts x).store = s.store := rfl
@[simp] theorem State.withPorts_defaulted (s : State) (x : PerPort Port) : (s.withPorts x).defaulted = s.defaulted := rfl
@[simp] theorem State.withPorts_saving (s : State) (x : PerPort Port) : (s.withPorts x).saving = s.saving := rfl
@[simp] theorem State.withPorts_slowPeriod (s : State) (x : PerPort Port) : (s.withPorts x).slowPeriod = s.slowPeriod := rfl
@[simp] theorem State.withPorts_account (s : State) (x : PerPort Port) : (s.withPorts x).account = s.account := rfl
@[simp] theorem State.withPorts_drive (s : State) (x : PerPort Port) : (s.withPorts x).drive = s.drive := rfl
@[simp] theorem State.withPorts_adm (s : State) (x : PerPort Port) : (s.withPorts x).adm = s.adm := rfl
@[simp] theorem State.withPorts_tanks (s : State) (x : PerPort Port) : (s.withPorts x).tanks = s.tanks := rfl
@[simp] theorem State.withPorts_water (s : State) (x : PerPort Port) : (s.withPorts x).water = s.water := rfl
@[simp] theorem State.withPorts_heater (s : State) (x : PerPort Port) : (s.withPorts x).heater = s.heater := rfl
@[simp] theorem State.withPorts_frost (s : State) (x : PerPort Port) : (s.withPorts x).frost = s.frost := rfl
@[simp] theorem State.withPorts_motion (s : State) (x : PerPort Port) : (s.withPorts x).motion = s.motion := rfl
@[simp] theorem State.withPorts_light (s : State) (x : PerPort Port) : (s.withPorts x).light = s.light := rfl
@[simp] theorem State.withPorts_runner (s : State) (x : PerPort Port) : (s.withPorts x).runner = s.runner := rfl
@[simp] theorem State.withPorts_ports (s : State) (x : PerPort Port) : (s.withPorts x).ports = x := rfl
@[simp] theorem State.withPorts_restarting (s : State) (x : PerPort Port) : (s.withPorts x).restarting = s.restarting := rfl
@[simp] theorem State.withPorts_sleep (s : State) (x : PerPort Port) : (s.withPorts x).sleep = s.sleep := rfl
@[simp] theorem State.withPorts_pending (s : State) (x : PerPort Port) : (s.withPorts x).pending = s.pending := rfl

@[simp] theorem State.withSleep_powered (s : State) (x : Sleep) : (s.withSleep x).powered = s.powered := rfl
@[simp] theorem State.withSleep_settings (s : State) (x : Sleep) : (s.withSleep x).settings = s.settings := rfl
@[simp] theorem State.withSleep_store (s : State) (x : Sleep) : (s.withSleep x).store = s.store := rfl
@[simp] theorem State.withSleep_defaulted (s : State) (x : Sleep) : (s.withSleep x).defaulted = s.defaulted := rfl
@[simp] theorem State.withSleep_saving (s : State) (x : Sleep) : (s.withSleep x).saving = s.saving := rfl
@[simp] theorem State.withSleep_slowPeriod (s : State) (x : Sleep) : (s.withSleep x).slowPeriod = s.slowPeriod := rfl
@[simp] theorem State.withSleep_account (s : State) (x : Sleep) : (s.withSleep x).account = s.account := rfl
@[simp] theorem State.withSleep_drive (s : State) (x : Sleep) : (s.withSleep x).drive = s.drive := rfl
@[simp] theorem State.withSleep_adm (s : State) (x : Sleep) : (s.withSleep x).adm = s.adm := rfl
@[simp] theorem State.withSleep_tanks (s : State) (x : Sleep) : (s.withSleep x).tanks = s.tanks := rfl
@[simp] theorem State.withSleep_water (s : State) (x : Sleep) : (s.withSleep x).water = s.water := rfl
@[simp] theorem State.withSleep_heater (s : State) (x : Sleep) : (s.withSleep x).heater = s.heater := rfl
@[simp] theorem State.withSleep_frost (s : State) (x : Sleep) : (s.withSleep x).frost = s.frost := rfl
@[simp] theorem State.withSleep_motion (s : State) (x : Sleep) : (s.withSleep x).motion = s.motion := rfl
@[simp] theorem State.withSleep_light (s : State) (x : Sleep) : (s.withSleep x).light = s.light := rfl
@[simp] theorem State.withSleep_runner (s : State) (x : Sleep) : (s.withSleep x).runner = s.runner := rfl
@[simp] theorem State.withSleep_ports (s : State) (x : Sleep) : (s.withSleep x).ports = s.ports := rfl
@[simp] theorem State.withSleep_restarting (s : State) (x : Sleep) : (s.withSleep x).restarting = s.restarting := rfl
@[simp] theorem State.withSleep_sleep (s : State) (x : Sleep) : (s.withSleep x).sleep = x := rfl
@[simp] theorem State.withSleep_pending (s : State) (x : Sleep) : (s.withSleep x).pending = s.pending := rfl

@[simp] theorem State.withPending_powered (s : State) (x : List Instr) : (s.withPending x).powered = s.powered := rfl
@[simp] theorem State.withPending_settings (s : State) (x : List Instr) : (s.withPending x).settings = s.settings := rfl
@[simp] theorem State.withPending_store (s : State) (x : List Instr) : (s.withPending x).store = s.store := rfl
@[simp] theorem State.withPending_defaulted (s : State) (x : List Instr) : (s.withPending x).defaulted = s.defaulted := rfl
@[simp] theorem State.withPending_saving (s : State) (x : List Instr) : (s.withPending x).saving = s.saving := rfl
@[simp] theorem State.withPending_slowPeriod (s : State) (x : List Instr) : (s.withPending x).slowPeriod = s.slowPeriod := rfl
@[simp] theorem State.withPending_account (s : State) (x : List Instr) : (s.withPending x).account = s.account := rfl
@[simp] theorem State.withPending_drive (s : State) (x : List Instr) : (s.withPending x).drive = s.drive := rfl
@[simp] theorem State.withPending_adm (s : State) (x : List Instr) : (s.withPending x).adm = s.adm := rfl
@[simp] theorem State.withPending_tanks (s : State) (x : List Instr) : (s.withPending x).tanks = s.tanks := rfl
@[simp] theorem State.withPending_water (s : State) (x : List Instr) : (s.withPending x).water = s.water := rfl
@[simp] theorem State.withPending_heater (s : State) (x : List Instr) : (s.withPending x).heater = s.heater := rfl
@[simp] theorem State.withPending_frost (s : State) (x : List Instr) : (s.withPending x).frost = s.frost := rfl
@[simp] theorem State.withPending_motion (s : State) (x : List Instr) : (s.withPending x).motion = s.motion := rfl
@[simp] theorem State.withPending_light (s : State) (x : List Instr) : (s.withPending x).light = s.light := rfl
@[simp] theorem State.withPending_runner (s : State) (x : List Instr) : (s.withPending x).runner = s.runner := rfl
@[simp] theorem State.withPending_ports (s : State) (x : List Instr) : (s.withPending x).ports = s.ports := rfl
@[simp] theorem State.withPending_restarting (s : State) (x : List Instr) : (s.withPending x).restarting = s.restarting := rfl
@[simp] theorem State.withPending_sleep (s : State) (x : List Instr) : (s.withPending x).sleep = s.sleep := rfl
@[simp] theorem State.withPending_pending (s : State) (x : List Instr) : (s.withPending x).pending = x := rfl

@[simp] theorem State.setPort_powered (s : State) (p : PortId) (x : Port) : (s.setPort p x).powered = s.powered := rfl
@[simp] theorem State.setPort_settings (s : State) (p : PortId) (x : Port) : (s.setPort p x).settings = s.settings := rfl
@[simp] theorem State.setPort_store (s : State) (p : PortId) (x : Port) : (s.setPort p x).store = s.store := rfl
@[simp] theorem State.setPort_defaulted (s : State) (p : PortId) (x : Port) : (s.setPort p x).defaulted = s.defaulted := rfl
@[simp] theorem State.setPort_saving (s : State) (p : PortId) (x : Port) : (s.setPort p x).saving = s.saving := rfl
@[simp] theorem State.setPort_slowPeriod (s : State) (p : PortId) (x : Port) : (s.setPort p x).slowPeriod = s.slowPeriod := rfl
@[simp] theorem State.setPort_account (s : State) (p : PortId) (x : Port) : (s.setPort p x).account = s.account := rfl
@[simp] theorem State.setPort_drive (s : State) (p : PortId) (x : Port) : (s.setPort p x).drive = s.drive := rfl
@[simp] theorem State.setPort_adm (s : State) (p : PortId) (x : Port) : (s.setPort p x).adm = s.adm := rfl
@[simp] theorem State.setPort_tanks (s : State) (p : PortId) (x : Port) : (s.setPort p x).tanks = s.tanks := rfl
@[simp] theorem State.setPort_water (s : State) (p : PortId) (x : Port) : (s.setPort p x).water = s.water := rfl
@[simp] theorem State.setPort_heater (s : State) (p : PortId) (x : Port) : (s.setPort p x).heater = s.heater := rfl
@[simp] theorem State.setPort_frost (s : State) (p : PortId) (x : Port) : (s.setPort p x).frost = s.frost := rfl
@[simp] theorem State.setPort_motion (s : State) (p : PortId) (x : Port) : (s.setPort p x).motion = s.motion := rfl
@[simp] theorem State.setPort_light (s : State) (p : PortId) (x : Port) : (s.setPort p x).light = s.light := rfl
@[simp] theorem State.setPort_runner (s : State) (p : PortId) (x : Port) : (s.setPort p x).runner = s.runner := rfl
@[simp] theorem State.setPort_restarting (s : State) (p : PortId) (x : Port) : (s.setPort p x).restarting = s.restarting := rfl
@[simp] theorem State.setPort_sleep (s : State) (p : PortId) (x : Port) : (s.setPort p x).sleep = s.sleep := rfl
@[simp] theorem State.setPort_pending (s : State) (p : PortId) (x : Port) : (s.setPort p x).pending = s.pending := rfl

@[simp] theorem State.setRec_powered (s : State) (a : Actuator) (x : MotionRec) : (s.setRec a x).powered = s.powered := rfl
@[simp] theorem State.setRec_settings (s : State) (a : Actuator) (x : MotionRec) : (s.setRec a x).settings = s.settings := rfl
@[simp] theorem State.setRec_store (s : State) (a : Actuator) (x : MotionRec) : (s.setRec a x).store = s.store := rfl
@[simp] theorem State.setRec_defaulted (s : State) (a : Actuator) (x : MotionRec) : (s.setRec a x).defaulted = s.defaulted := rfl
@[simp] theorem State.setRec_saving (s : State) (a : Actuator) (x : MotionRec) : (s.setRec a x).saving = s.saving := rfl
@[simp] theorem State.setRec_slowPeriod (s : State) (a : Actuator) (x : MotionRec) : (s.setRec a x).slowPeriod = s.slowPeriod := rfl
@[simp] theorem State.setRec_account (s : State) (a : Actuator) (x : MotionRec) : (s.setRec a x).account = s.account := rfl
@[simp] theorem State.setRec_drive (s : State) (a : Actuator) (x : MotionRec) : (s.setRec a x).drive = s.drive := rfl
@[simp] theorem State.setRec_adm (s : State) (a : Actuator) (x : MotionRec) : (s.setRec a x).adm = s.adm := rfl
@[simp] theorem State.setRec_tanks (s : State) (a : Actuator) (x : MotionRec) : (s.setRec a x).tanks = s.tanks := rfl
@[simp] theorem State.setRec_water (s : State) (a : Actuator) (x : MotionRec) : (s.setRec a x).water = s.water := rfl
@[simp] theorem State.setRec_heater (s : State) (a : Actuator) (x : MotionRec) : (s.setRec a x).heater = s.heater := rfl
@[simp] theorem State.setRec_frost (s : State) (a : Actuator) (x : MotionRec) : (s.setRec a x).frost = s.frost := rfl
@[simp] theorem State.setRec_light (s : State) (a : Actuator) (x : MotionRec) : (s.setRec a x).light = s.light := rfl
@[simp] theorem State.setRec_runner (s : State) (a : Actuator) (x : MotionRec) : (s.setRec a x).runner = s.runner := rfl
@[simp] theorem State.setRec_ports (s : State) (a : Actuator) (x : MotionRec) : (s.setRec a x).ports = s.ports := rfl
@[simp] theorem State.setRec_restarting (s : State) (a : Actuator) (x : MotionRec) : (s.setRec a x).restarting = s.restarting := rfl
@[simp] theorem State.setRec_sleep (s : State) (a : Actuator) (x : MotionRec) : (s.setRec a x).sleep = s.sleep := rfl
@[simp] theorem State.setRec_pending (s : State) (a : Actuator) (x : MotionRec) : (s.setRec a x).pending = s.pending := rfl

@[simp] theorem State.setTank_powered (s : State) (t : TankId) (x : TankRec) : (s.setTank t x).powered = s.powered := rfl
@[simp] theorem State.setTank_settings (s : State) (t : TankId) (x : TankRec) : (s.setTank t x).settings = s.settings := rfl
@[simp] theorem State.setTank_store (s : State) (t : TankId) (x : TankRec) : (s.setTank t x).store = s.store := rfl
@[simp] theorem State.setTank_defaulted (s : State) (t : TankId) (x : TankRec) : (s.setTank t x).defaulted = s.defaulted := rfl
@[simp] theorem State.setTank_saving (s : State) (t : TankId) (x : TankRec) : (s.setTank t x).saving = s.saving := rfl
@[simp] theorem State.setTank_slowPeriod (s : State) (t : TankId) (x : TankRec) : (s.setTank t x).slowPeriod = s.slowPeriod := rfl
@[simp] theorem State.setTank_account (s : State) (t : TankId) (x : TankRec) : (s.setTank t x).account = s.account := rfl
@[simp] theorem State.setTank_drive (s : State) (t : TankId) (x : TankRec) : (s.setTank t x).drive = s.drive := rfl
@[simp] theorem State.setTank_adm (s : State) (t : TankId) (x : TankRec) : (s.setTank t x).adm = s.adm := rfl
@[simp] theorem State.setTank_water (s : State) (t : TankId) (x : TankRec) : (s.setTank t x).water = s.water := rfl
@[simp] theorem State.setTank_heater (s : State) (t : TankId) (x : TankRec) : (s.setTank t x).heater = s.heater := rfl
@[simp] theorem State.setTank_frost (s : State) (t : TankId) (x : TankRec) : (s.setTank t x).frost = s.frost := rfl
@[simp] theorem State.setTank_motion (s : State) (t : TankId) (x : TankRec) : (s.setTank t x).motion = s.motion := rfl
@[simp] theorem State.setTank_light (s : State) (t : TankId) (x : TankRec) : (s.setTank t x).light = s.light := rfl
@[simp] theorem State.setTank_runner (s : State) (t : TankId) (x : TankRec) : (s.setTank t x).runner = s.runner := rfl
@[simp] theorem State.setTank_ports (s : State) (t : TankId) (x : TankRec) : (s.setTank t x).ports = s.ports := rfl
@[simp] theorem State.setTank_restarting (s : State) (t : TankId) (x : TankRec) : (s.setTank t x).restarting = s.restarting := rfl
@[simp] theorem State.setTank_sleep (s : State) (t : TankId) (x : TankRec) : (s.setTank t x).sleep = s.sleep := rfl
@[simp] theorem State.setTank_pending (s : State) (t : TankId) (x : TankRec) : (s.setTank t x).pending = s.pending := rfl

@[simp] theorem State.setPort_ports (s : State) (p : PortId) (x : Port) :
    (s.setPort p x).ports = s.ports.set p x := rfl
@[simp] theorem State.setTank_tanks (s : State) (t : TankId) (x : TankRec) :
    (s.setTank t x).tanks = s.tanks.set t x := rfl
@[simp] theorem State.setRec_motion (s : State) (a : Actuator) (x : MotionRec) :
    (s.setRec a x).motion = { s.motion with recs := s.motion.recs.set a x } := rfl

@[simp] theorem PerPort.get_set {α : Type} (x : PerPort α) (p : PortId) (v : α) : (x.set p v).get p = v := by
  cases p <;> rfl
theorem PerPort.get_set_ne {α : Type} (x : PerPort α) {p q : PortId} (v : α) (h : q ≠ p) :
    (x.set p v).get q = x.get q := by
  cases p <;> cases q <;> first | rfl | exact absurd rfl h
@[simp] theorem PerPort.set_get {α : Type} (x : PerPort α) (p : PortId) : x.set p (x.get p) = x := by
  cases p <;> rfl
@[simp] theorem PerPort.set_set {α : Type} (x : PerPort α) (p : PortId) (v w : α) :
    (x.set p v).set p w = x.set p w := by
  cases p <;> rfl
theorem PerPort.ext_get {α : Type} {x y : PerPort α} (h : ∀ p, x.get p = y.get p) : x = y := by
  have h1 := h .panel
  have h2 := h .remote
  have h3 := h .vehicle
  cases x; cases y; simp_all [PerPort.get]

@[simp] theorem PerActuator.get_set {α : Type} (x : PerActuator α) (a : Actuator) (v : α) : (x.set a v).get a = v := by
  cases a <;> rfl
@[simp] theorem PerActuator.get_set_other {α : Type} (x : PerActuator α) (a : Actuator) (v : α) :
    (x.set a v).get (otherActuator a) = x.get (otherActuator a) := by
  cases a <;> rfl
@[simp] theorem PerTank.get_set {α : Type} (x : PerTank α) (t : TankId) (v : α) : (x.set t v).get t = v := by
  cases t <;> rfl
theorem PerTank.get_set_ne {α : Type} (x : PerTank α) {t u : TankId} (v : α) (h : u ≠ t) :
    (x.set t v).get u = x.get u := by
  cases t <;> cases u <;> first | rfl | exact absurd rfl h

@[simp] theorem State.motionRec_setRec (s : State) (a : Actuator) (r : MotionRec) : (s.setRec a r).motionRec a = r := by
  simp [State.motionRec]

/-! ### Notices -/

/-- A port less its notice queue: what no notice touches. -/
def Port.link (x : Port) : Port := { x with queue := [] }

/-- The three ports less their notice queues. -/
def State.links (s : State) : PerPort Port :=
  { panel := s.ports.panel.link, remote := s.ports.remote.link, vehicle := s.ports.vehicle.link }

@[simp] theorem Port.offer_link (x : Port) (n : Notice) : (x.offer n).link = x.link := by
  unfold Port.offer; split <;> rfl

@[simp] theorem raise_powered (k : NoticeKind) (c : RecClass) (i : Nat) (s : State) : (raise k c i s).powered = s.powered := rfl
@[simp] theorem raise_settings (k : NoticeKind) (c : RecClass) (i : Nat) (s : State) : (raise k c i s).settings = s.settings := rfl
@[simp] theorem raise_store (k : NoticeKind) (c : RecClass) (i : Nat) (s : State) : (raise k c i s).store = s.store := rfl
@[simp] theorem raise_defaulted (k : NoticeKind) (c : RecClass) (i : Nat) (s : State) : (raise k c i s).defaulted = s.defaulted := rfl
@[simp] theorem raise_saving (k : NoticeKind) (c : RecClass) (i : Nat) (s : State) : (raise k c i s).saving = s.saving := rfl
@[simp] theorem raise_slowPeriod (k : NoticeKind) (c : RecClass) (i : Nat) (s : State) : (raise k c i s).slowPeriod = s.slowPeriod := rfl
@[simp] theorem raise_account (k : NoticeKind) (c : RecClass) (i : Nat) (s : State) : (raise k c i s).account = s.account := rfl
@[simp] theorem raise_drive (k : NoticeKind) (c : RecClass) (i : Nat) (s : State) : (raise k c i s).drive = s.drive := rfl
@[simp] theorem raise_adm (k : NoticeKind) (c : RecClass) (i : Nat) (s : State) : (raise k c i s).adm = s.adm := rfl
@[simp] theorem raise_tanks (k : NoticeKind) (c : RecClass) (i : Nat) (s : State) : (raise k c i s).tanks = s.tanks := rfl
@[simp] theorem raise_water (k : NoticeKind) (c : RecClass) (i : Nat) (s : State) : (raise k c i s).water = s.water := rfl
@[simp] theorem raise_heater (k : NoticeKind) (c : RecClass) (i : Nat) (s : State) : (raise k c i s).heater = s.heater := rfl
@[simp] theorem raise_frost (k : NoticeKind) (c : RecClass) (i : Nat) (s : State) : (raise k c i s).frost = s.frost := rfl
@[simp] theorem raise_motion (k : NoticeKind) (c : RecClass) (i : Nat) (s : State) : (raise k c i s).motion = s.motion := rfl
@[simp] theorem raise_light (k : NoticeKind) (c : RecClass) (i : Nat) (s : State) : (raise k c i s).light = s.light := rfl
@[simp] theorem raise_runner (k : NoticeKind) (c : RecClass) (i : Nat) (s : State) : (raise k c i s).runner = s.runner := rfl
@[simp] theorem raise_restarting (k : NoticeKind) (c : RecClass) (i : Nat) (s : State) : (raise k c i s).restarting = s.restarting := rfl
@[simp] theorem raise_sleep (k : NoticeKind) (c : RecClass) (i : Nat) (s : State) : (raise k c i s).sleep = s.sleep := rfl
@[simp] theorem raise_pending (k : NoticeKind) (c : RecClass) (i : Nat) (s : State) : (raise k c i s).pending = s.pending := rfl
@[simp] theorem raise_links (k : NoticeKind) (c : RecClass) (i : Nat) (s : State) : (raise k c i s).links = s.links := by
  simp [raise, State.links]

@[simp] theorem State.withSettings_links (s : State) (x : Settings) : (s.withSettings x).links = s.links := rfl
@[simp] theorem State.withAccount_links (s : State) (x : Account) : (s.withAccount x).links = s.links := rfl
@[simp] theorem State.withDrive_links (s : State) (x : DriveSide) : (s.withDrive x).links = s.links := rfl
@[simp] theorem State.withAdm_links (s : State) (x : Adm) : (s.withAdm x).links = s.links := rfl
@[simp] theorem State.withTanks_links (s : State) (x : PerTank TankRec) : (s.withTanks x).links = s.links := rfl
@[simp] theorem State.withWater_links (s : State) (x : Water) : (s.withWater x).links = s.links := rfl
@[simp] theorem State.withHeater_links (s : State) (x : Heater) : (s.withHeater x).links = s.links := rfl
@[simp] theorem State.withFrost_links (s : State) (x : Frost) : (s.withFrost x).links = s.links := rfl
@[simp] theorem State.withMotion_links (s : State) (x : Motion) : (s.withMotion x).links = s.links := rfl
@[simp] theorem State.withLight_links (s : State) (x : Light) : (s.withLight x).links = s.links := rfl
@[simp] theorem State.withRunner_links (s : State) (x : Runner) : (s.withRunner x).links = s.links := rfl
@[simp] theorem State.withSleep_links (s : State) (x : Sleep) : (s.withSleep x).links = s.links := rfl
@[simp] theorem State.withPending_links (s : State) (x : List Instr) : (s.withPending x).links = s.links := rfl
@[simp] theorem State.setRec_links (s : State) (a : Actuator) (x : MotionRec) : (s.setRec a x).links = s.links := rfl
@[simp] theorem State.setTank_links (s : State) (t : TankId) (x : TankRec) : (s.setTank t x).links = s.links := rfl

end Sys2Proof.Machine
end

