-- ==== Sys2Proof/Laws/Frame.lean ====
section
/-! SUPPORT. What each block's operations leave as it was: one lemma for each operation, field by field of the state, so that
a proof about one block never unfolds another's. `links` is the ports less their notice queues. -/

namespace Sys2Proof.Machine

/-! ### Admission -/

/-- The SHED notices of a shed pass touch the notice queues alone (R62). -/
@[simp] theorem shedNotices_frame (l : List (Fin 20)) (s : State) :
    (l.foldl (fun b e => raise .shed .load e.val b) s).powered = s.powered
      ∧ (l.foldl (fun b e => raise .shed .load e.val b) s).settings = s.settings
      ∧ (l.foldl (fun b e => raise .shed .load e.val b) s).store = s.store
      ∧ (l.foldl (fun b e => raise .shed .load e.val b) s).defaulted = s.defaulted
      ∧ (l.foldl (fun b e => raise .shed .load e.val b) s).saving = s.saving
      ∧ (l.foldl (fun b e => raise .shed .load e.val b) s).slowPeriod = s.slowPeriod
      ∧ (l.foldl (fun b e => raise .shed .load e.val b) s).account = s.account
      ∧ (l.foldl (fun b e => raise .shed .load e.val b) s).drive = s.drive
      ∧ (l.foldl (fun b e => raise .shed .load e.val b) s).adm = s.adm
      ∧ (l.foldl (fun b e => raise .shed .load e.val b) s).tanks = s.tanks
      ∧ (l.foldl (fun b e => raise .shed .load e.val b) s).water = s.water
      ∧ (l.foldl (fun b e => raise .shed .load e.val b) s).heater = s.heater
      ∧ (l.foldl (fun b e => raise .shed .load e.val b) s).frost = s.frost
      ∧ (l.foldl (fun b e => raise .shed .load e.val b) s).motion = s.motion
      ∧ (l.foldl (fun b e => raise .shed .load e.val b) s).light = s.light
      ∧ (l.foldl (fun b e => raise .shed .load e.val b) s).runner = s.runner
      ∧ (l.foldl (fun b e => raise .shed .load e.val b) s).links = s.links
      ∧ (l.foldl (fun b e => raise .shed .load e.val b) s).restarting = s.restarting
      ∧ (l.foldl (fun b e => raise .shed .load e.val b) s).sleep = s.sleep
      ∧ (l.foldl (fun b e => raise .shed .load e.val b) s).pending = s.pending := by
  induction l generalizing s with
  | nil => simp
  | cons e l ih => simp [ih]

@[simp] theorem budgetStages_frame (s : State) :
    (budgetStages s).powered = s.powered ∧ (budgetStages s).settings = s.settings
      ∧ (budgetStages s).store = s.store ∧ (budgetStages s).defaulted = s.defaulted
      ∧ (budgetStages s).saving = s.saving ∧ (budgetStages s).slowPeriod = s.slowPeriod
      ∧ (budgetStages s).account = s.account ∧ (budgetStages s).drive = s.drive
      ∧ (budgetStages s).tanks = s.tanks ∧ (budgetStages s).water = s.water ∧ (budgetStages s).heater = s.heater
      ∧ (budgetStages s).frost = s.frost ∧ (budgetStages s).motion = s.motion ∧ (budgetStages s).light = s.light
      ∧ (budgetStages s).runner = s.runner ∧ (budgetStages s).links = s.links
      ∧ (budgetStages s).restarting = s.restarting ∧ (budgetStages s).sleep = s.sleep
      ∧ (budgetStages s).pending = s.pending := by
  unfold budgetStages
  try dsimp only
  (repeat' split) <;> simp [shedNotices_frame]

@[simp] theorem enterDisconnect_frame (s : State) :
    (enterDisconnect s).powered = s.powered ∧ (enterDisconnect s).settings = s.settings
      ∧ (enterDisconnect s).store = s.store ∧ (enterDisconnect s).defaulted = s.defaulted
      ∧ (enterDisconnect s).saving = s.saving ∧ (enterDisconnect s).slowPeriod = s.slowPeriod
      ∧ (enterDisconnect s).account = s.account ∧ (enterDisconnect s).drive = s.drive
      ∧ (enterDisconnect s).tanks = s.tanks ∧ (enterDisconnect s).water = s.water
      ∧ (enterDisconnect s).heater = s.heater ∧ (enterDisconnect s).frost = s.frost
      ∧ (enterDisconnect s).motion = s.motion ∧ (enterDisconnect s).light = s.light
      ∧ (enterDisconnect s).runner = s.runner ∧ (enterDisconnect s).links = s.links
      ∧ (enterDisconnect s).restarting = s.restarting ∧ (enterDisconnect s).sleep = s.sleep
      ∧ (enterDisconnect s).pending = s.pending := by
  generalize h : (enterDisconnect s) = t
  unfold enterDisconnect at h
  try dsimp only at h
  (repeat' split at h) <;> (subst h; simp)

@[simp] theorem exitDisconnect_frame (s : State) :
    (exitDisconnect s).powered = s.powered ∧ (exitDisconnect s).settings = s.settings
      ∧ (exitDisconnect s).store = s.store ∧ (exitDisconnect s).defaulted = s.defaulted
      ∧ (exitDisconnect s).saving = s.saving ∧ (exitDisconnect s).slowPeriod = s.slowPeriod
      ∧ (exitDisconnect s).account = s.account ∧ (exitDisconnect s).drive = s.drive
      ∧ (exitDisconnect s).tanks = s.tanks ∧ (exitDisconnect s).water = s.water
      ∧ (exitDisconnect s).heater = s.heater ∧ (exitDisconnect s).frost = s.frost
      ∧ (exitDisconnect s).motion = s.motion ∧ (exitDisconnect s).light = s.light
      ∧ (exitDisconnect s).runner = s.runner ∧ (exitDisconnect s).links = s.links
      ∧ (exitDisconnect s).restarting = s.restarting ∧ (exitDisconnect s).sleep = s.sleep
      ∧ (exitDisconnect s).pending = s.pending := by
  generalize h : (exitDisconnect s) = t
  unfold exitDisconnect at h
  try dsimp only at h
  (repeat' split at h) <;> (subst h; simp)

@[simp] theorem disconnectStage_frame (x : Sample) (s : State) :
    (disconnectStage x s).powered = s.powered ∧ (disconnectStage x s).settings = s.settings
      ∧ (disconnectStage x s).store = s.store ∧ (disconnectStage x s).defaulted = s.defaulted
      ∧ (disconnectStage x s).saving = s.saving ∧ (disconnectStage x s).slowPeriod = s.slowPeriod
      ∧ (disconnectStage x s).account = s.account ∧ (disconnectStage x s).drive = s.drive
      ∧ (disconnectStage x s).tanks = s.tanks ∧ (disconnectStage x s).water = s.water
      ∧ (disconnectStage x s).heater = s.heater ∧ (disconnectStage x s).frost = s.frost
      ∧ (disconnectStage x s).motion = s.motion ∧ (disconnectStage x s).light = s.light
      ∧ (disconnectStage x s).runner = s.runner ∧ (disconnectStage x s).links = s.links
      ∧ (disconnectStage x s).restarting = s.restarting ∧ (disconnectStage x s).sleep = s.sleep
      ∧ (disconnectStage x s).pending = s.pending := by
  generalize h : (disconnectStage x s) = t
  unfold disconnectStage at h
  try dsimp only at h
  (repeat' split at h) <;> (subst h; simp)

@[simp] theorem budgetEvent_frame (x : Sample) (s : State) :
    (budgetEvent x s).powered = s.powered ∧ (budgetEvent x s).settings = s.settings
      ∧ (budgetEvent x s).store = s.store ∧ (budgetEvent x s).defaulted = s.defaulted
      ∧ (budgetEvent x s).saving = s.saving ∧ (budgetEvent x s).slowPeriod = s.slowPeriod
      ∧ (budgetEvent x s).account = s.account ∧ (budgetEvent x s).drive = s.drive
      ∧ (budgetEvent x s).tanks = s.tanks ∧ (budgetEvent x s).water = s.water
      ∧ (budgetEvent x s).heater = s.heater ∧ (budgetEvent x s).frost = s.frost
      ∧ (budgetEvent x s).motion = s.motion ∧ (budgetEvent x s).light = s.light
      ∧ (budgetEvent x s).runner = s.runner ∧ (budgetEvent x s).links = s.links
      ∧ (budgetEvent x s).restarting = s.restarting ∧ (budgetEvent x s).sleep = s.sleep
      ∧ (budgetEvent x s).pending = s.pending := by
  generalize h : (budgetEvent x s) = t
  unfold budgetEvent at h
  try dsimp only at h
  (repeat' split at h) <;> (subst h; simp)

@[simp] theorem lvdEntryReached_frame (s : State) :
    (lvdEntryReached s).powered = s.powered ∧ (lvdEntryReached s).settings = s.settings
      ∧ (lvdEntryReached s).store = s.store ∧ (lvdEntryReached s).defaulted = s.defaulted
      ∧ (lvdEntryReached s).saving = s.saving ∧ (lvdEntryReached s).slowPeriod = s.slowPeriod
      ∧ (lvdEntryReached s).account = s.account ∧ (lvdEntryReached s).drive = s.drive
      ∧ (lvdEntryReached s).tanks = s.tanks ∧ (lvdEntryReached s).water = s.water
      ∧ (lvdEntryReached s).heater = s.heater ∧ (lvdEntryReached s).frost = s.frost
      ∧ (lvdEntryReached s).motion = s.motion ∧ (lvdEntryReached s).light = s.light
      ∧ (lvdEntryReached s).runner = s.runner ∧ (lvdEntryReached s).links = s.links
      ∧ (lvdEntryReached s).restarting = s.restarting ∧ (lvdEntryReached s).sleep = s.sleep
      ∧ (lvdEntryReached s).pending = s.pending := by
  generalize h : (lvdEntryReached s) = t
  unfold lvdEntryReached at h
  try dsimp only at h
  (repeat' split at h) <;> (subst h; simp)

@[simp] theorem lvdExitReached_frame (s : State) :
    (lvdExitReached s).powered = s.powered ∧ (lvdExitReached s).settings = s.settings
      ∧ (lvdExitReached s).store = s.store ∧ (lvdExitReached s).defaulted = s.defaulted
      ∧ (lvdExitReached s).saving = s.saving ∧ (lvdExitReached s).slowPeriod = s.slowPeriod
      ∧ (lvdExitReached s).account = s.account ∧ (lvdExitReached s).drive = s.drive
      ∧ (lvdExitReached s).tanks = s.tanks ∧ (lvdExitReached s).water = s.water
      ∧ (lvdExitReached s).heater = s.heater ∧ (lvdExitReached s).frost = s.frost
      ∧ (lvdExitReached s).motion = s.motion ∧ (lvdExitReached s).light = s.light
      ∧ (lvdExitReached s).runner = s.runner ∧ (lvdExitReached s).links = s.links
      ∧ (lvdExitReached s).restarting = s.restarting ∧ (lvdExitReached s).sleep = s.sleep
      ∧ (lvdExitReached s).pending = s.pending := by
  generalize h : (lvdExitReached s) = t
  unfold lvdExitReached at h
  try dsimp only at h
  (repeat' split at h) <;> (subst h; simp)

@[simp] theorem request_frame (e : Fin 20) (c : LoadClass) (rating : Nat) (s : State) :
    (request e c rating s).powered = s.powered ∧ (request e c rating s).settings = s.settings
      ∧ (request e c rating s).store = s.store ∧ (request e c rating s).defaulted = s.defaulted
      ∧ (request e c rating s).saving = s.saving ∧ (request e c rating s).slowPeriod = s.slowPeriod
      ∧ (request e c rating s).account = s.account ∧ (request e c rating s).drive = s.drive
      ∧ (request e c rating s).tanks = s.tanks ∧ (request e c rating s).water = s.water
      ∧ (request e c rating s).heater = s.heater ∧ (request e c rating s).frost = s.frost
      ∧ (request e c rating s).motion = s.motion ∧ (request e c rating s).light = s.light
      ∧ (request e c rating s).runner = s.runner ∧ (request e c rating s).ports = s.ports
      ∧ (request e c rating s).restarting = s.restarting ∧ (request e c rating s).sleep = s.sleep
      ∧ (request e c rating s).pending = s.pending ∧ (request e c rating s).links = s.links := by
  generalize h : (request e c rating s) = t
  unfold request at h
  try dsimp only at h
  (repeat' split at h) <;> (subst h; simp)

@[simp] theorem release_frame (e : Fin 20) (s : State) :
    (release e s).powered = s.powered ∧ (release e s).settings = s.settings ∧ (release e s).store = s.store
      ∧ (release e s).defaulted = s.defaulted ∧ (release e s).saving = s.saving
      ∧ (release e s).slowPeriod = s.slowPeriod ∧ (release e s).account = s.account
      ∧ (release e s).drive = s.drive ∧ (release e s).tanks = s.tanks ∧ (release e s).water = s.water
      ∧ (release e s).heater = s.heater ∧ (release e s).frost = s.frost ∧ (release e s).motion = s.motion
      ∧ (release e s).light = s.light ∧ (release e s).runner = s.runner ∧ (release e s).ports = s.ports
      ∧ (release e s).restarting = s.restarting ∧ (release e s).sleep = s.sleep
      ∧ (release e s).pending = s.pending ∧ (release e s).links = s.links := by
  generalize h : (release e s) = t
  unfold release at h
  try dsimp only at h
  (repeat' split at h) <;> (subst h; simp)

@[simp] theorem loadSet_frame (entry switch : Nat) (s : State) :
    (loadSet entry switch s).2.powered = s.powered ∧ (loadSet entry switch s).2.settings = s.settings
      ∧ (loadSet entry switch s).2.store = s.store ∧ (loadSet entry switch s).2.defaulted = s.defaulted
      ∧ (loadSet entry switch s).2.saving = s.saving ∧ (loadSet entry switch s).2.slowPeriod = s.slowPeriod
      ∧ (loadSet entry switch s).2.account = s.account ∧ (loadSet entry switch s).2.drive = s.drive
      ∧ (loadSet entry switch s).2.tanks = s.tanks ∧ (loadSet entry switch s).2.water = s.water
      ∧ (loadSet entry switch s).2.heater = s.heater ∧ (loadSet entry switch s).2.frost = s.frost
      ∧ (loadSet entry switch s).2.motion = s.motion ∧ (loadSet entry switch s).2.light = s.light
      ∧ (loadSet entry switch s).2.runner = s.runner ∧ (loadSet entry switch s).2.ports = s.ports
      ∧ (loadSet entry switch s).2.restarting = s.restarting ∧ (loadSet entry switch s).2.sleep = s.sleep
      ∧ (loadSet entry switch s).2.pending = s.pending ∧ (loadSet entry switch s).2.links = s.links := by
  generalize h : (loadSet entry switch s) = t
  unfold loadSet at h
  try dsimp only at h
  (repeat' split at h) <;> (subst h; simp)

/-! ### Account -/

@[simp] theorem accountSample_frame (x : Sample) (s : State) :
    (accountSample x s).powered = s.powered ∧ (accountSample x s).settings = s.settings
      ∧ (accountSample x s).store = s.store ∧ (accountSample x s).defaulted = s.defaulted
      ∧ (accountSample x s).saving = s.saving ∧ (accountSample x s).slowPeriod = s.slowPeriod
      ∧ (accountSample x s).drive = s.drive ∧ (accountSample x s).adm = s.adm
      ∧ (accountSample x s).tanks = s.tanks ∧ (accountSample x s).water = s.water
      ∧ (accountSample x s).heater = s.heater ∧ (accountSample x s).frost = s.frost
      ∧ (accountSample x s).motion = s.motion ∧ (accountSample x s).light = s.light
      ∧ (accountSample x s).runner = s.runner ∧ (accountSample x s).links = s.links
      ∧ (accountSample x s).restarting = s.restarting ∧ (accountSample x s).sleep = s.sleep
      ∧ (accountSample x s).pending = s.pending := by
  generalize h : (accountSample x s) = t
  unfold accountSample at h
  try dsimp only at h
  (repeat' split at h) <;> (subst h; simp)

@[simp] theorem restReached_frame (s : State) :
    (restReached s).powered = s.powered ∧ (restReached s).settings = s.settings
      ∧ (restReached s).store = s.store ∧ (restReached s).defaulted = s.defaulted
      ∧ (restReached s).saving = s.saving ∧ (restReached s).slowPeriod = s.slowPeriod
      ∧ (restReached s).drive = s.drive ∧ (restReached s).adm = s.adm ∧ (restReached s).tanks = s.tanks
      ∧ (restReached s).water = s.water ∧ (restReached s).heater = s.heater ∧ (restReached s).frost = s.frost
      ∧ (restReached s).motion = s.motion ∧ (restReached s).light = s.light ∧ (restReached s).runner = s.runner
      ∧ (restReached s).ports = s.ports ∧ (restReached s).restarting = s.restarting
      ∧ (restReached s).sleep = s.sleep ∧ (restReached s).pending = s.pending ∧ (restReached s).links = s.links := by
  generalize h : (restReached s) = t
  unfold restReached at h
  try dsimp only at h
  (repeat' split at h) <;> (subst h; simp)

@[simp] theorem syncReached_frame (s : State) :
    (syncReached s).powered = s.powered ∧ (syncReached s).settings = s.settings
      ∧ (syncReached s).store = s.store ∧ (syncReached s).defaulted = s.defaulted
      ∧ (syncReached s).saving = s.saving ∧ (syncReached s).slowPeriod = s.slowPeriod
      ∧ (syncReached s).drive = s.drive ∧ (syncReached s).adm = s.adm ∧ (syncReached s).tanks = s.tanks
      ∧ (syncReached s).water = s.water ∧ (syncReached s).heater = s.heater ∧ (syncReached s).frost = s.frost
      ∧ (syncReached s).motion = s.motion ∧ (syncReached s).light = s.light ∧ (syncReached s).runner = s.runner
      ∧ (syncReached s).links = s.links ∧ (syncReached s).restarting = s.restarting
      ∧ (syncReached s).sleep = s.sleep ∧ (syncReached s).pending = s.pending := by
  generalize h : (syncReached s) = t
  unfold syncReached at h
  try dsimp only at h
  (repeat' split at h) <;> (subst h; simp)

@[simp] theorem tempAbsenceReached_frame (s : State) :
    (tempAbsenceReached s).powered = s.powered ∧ (tempAbsenceReached s).settings = s.settings
      ∧ (tempAbsenceReached s).store = s.store ∧ (tempAbsenceReached s).defaulted = s.defaulted
      ∧ (tempAbsenceReached s).saving = s.saving ∧ (tempAbsenceReached s).slowPeriod = s.slowPeriod
      ∧ (tempAbsenceReached s).drive = s.drive ∧ (tempAbsenceReached s).adm = s.adm
      ∧ (tempAbsenceReached s).tanks = s.tanks ∧ (tempAbsenceReached s).water = s.water
      ∧ (tempAbsenceReached s).heater = s.heater ∧ (tempAbsenceReached s).frost = s.frost
      ∧ (tempAbsenceReached s).motion = s.motion ∧ (tempAbsenceReached s).light = s.light
      ∧ (tempAbsenceReached s).runner = s.runner ∧ (tempAbsenceReached s).ports = s.ports
      ∧ (tempAbsenceReached s).restarting = s.restarting ∧ (tempAbsenceReached s).sleep = s.sleep
      ∧ (tempAbsenceReached s).pending = s.pending ∧ (tempAbsenceReached s).links = s.links := by
  generalize h : (tempAbsenceReached s) = t
  unfold tempAbsenceReached at h
  try dsimp only at h
  (repeat' split at h) <;> (subst h; simp)

/-! ### Sleep -/

@[simp] theorem wake_frame (quietMark : Bool) (s : State) :
    (wake quietMark s).powered = s.powered ∧ (wake quietMark s).settings = s.settings
      ∧ (wake quietMark s).store = s.store ∧ (wake quietMark s).defaulted = s.defaulted
      ∧ (wake quietMark s).saving = s.saving ∧ (wake quietMark s).slowPeriod = s.slowPeriod
      ∧ (wake quietMark s).account = s.account ∧ (wake quietMark s).drive = s.drive
      ∧ (wake quietMark s).adm = s.adm ∧ (wake quietMark s).tanks = s.tanks ∧ (wake quietMark s).water = s.water
      ∧ (wake quietMark s).heater = s.heater ∧ (wake quietMark s).frost = s.frost
      ∧ (wake quietMark s).motion = s.motion ∧ (wake quietMark s).runner = s.runner
      ∧ (wake quietMark s).ports = s.ports ∧ (wake quietMark s).restarting = s.restarting
      ∧ (wake quietMark s).pending = s.pending ∧ (wake quietMark s).links = s.links := by
  generalize h : (wake quietMark s) = t
  unfold wake at h
  try dsimp only at h
  (repeat' split at h) <;> (subst h; simp)

@[simp] theorem conditionFails_frame (s : State) :
    (conditionFails s).powered = s.powered ∧ (conditionFails s).settings = s.settings ∧ (conditionFails s).store = s.store
      ∧ (conditionFails s).defaulted = s.defaulted ∧ (conditionFails s).saving = s.saving
      ∧ (conditionFails s).slowPeriod = s.slowPeriod ∧ (conditionFails s).account = s.account
      ∧ (conditionFails s).drive = s.drive ∧ (conditionFails s).adm = s.adm ∧ (conditionFails s).tanks = s.tanks
      ∧ (conditionFails s).water = s.water ∧ (conditionFails s).heater = s.heater ∧ (conditionFails s).frost = s.frost
      ∧ (conditionFails s).motion = s.motion ∧ (conditionFails s).runner = s.runner ∧ (conditionFails s).ports = s.ports
      ∧ (conditionFails s).restarting = s.restarting ∧ (conditionFails s).pending = s.pending
      ∧ (conditionFails s).links = s.links := by
  generalize h : (conditionFails s) = t
  unfold conditionFails at h
  try dsimp only at h
  (repeat' split at h) <;> (subst h; simp)

@[simp] theorem judgeSleep_frame (s : State) :
    (judgeSleep s).powered = s.powered ∧ (judgeSleep s).settings = s.settings ∧ (judgeSleep s).store = s.store
      ∧ (judgeSleep s).defaulted = s.defaulted ∧ (judgeSleep s).saving = s.saving
      ∧ (judgeSleep s).slowPeriod = s.slowPeriod ∧ (judgeSleep s).account = s.account
      ∧ (judgeSleep s).drive = s.drive ∧ (judgeSleep s).adm = s.adm ∧ (judgeSleep s).tanks = s.tanks
      ∧ (judgeSleep s).water = s.water ∧ (judgeSleep s).heater = s.heater ∧ (judgeSleep s).frost = s.frost
      ∧ (judgeSleep s).motion = s.motion ∧ (judgeSleep s).runner = s.runner ∧ (judgeSleep s).ports = s.ports
      ∧ (judgeSleep s).restarting = s.restarting ∧ (judgeSleep s).pending = s.pending
      ∧ (judgeSleep s).links = s.links := by
  generalize h : (judgeSleep s) = t
  unfold judgeSleep at h
  try dsimp only at h
  (repeat' split at h) <;> (subst h; simp)

@[simp] theorem wakeCause_frame (s : State) :
    (wakeCause s).powered = s.powered ∧ (wakeCause s).settings = s.settings ∧ (wakeCause s).store = s.store
      ∧ (wakeCause s).defaulted = s.defaulted ∧ (wakeCause s).saving = s.saving
      ∧ (wakeCause s).slowPeriod = s.slowPeriod ∧ (wakeCause s).account = s.account
      ∧ (wakeCause s).drive = s.drive ∧ (wakeCause s).adm = s.adm ∧ (wakeCause s).tanks = s.tanks
      ∧ (wakeCause s).water = s.water ∧ (wakeCause s).heater = s.heater ∧ (wakeCause s).frost = s.frost
      ∧ (wakeCause s).motion = s.motion ∧ (wakeCause s).runner = s.runner ∧ (wakeCause s).ports = s.ports
      ∧ (wakeCause s).restarting = s.restarting ∧ (wakeCause s).pending = s.pending
      ∧ (wakeCause s).links = s.links := by
  generalize h : (wakeCause s) = t
  unfold wakeCause at h
  try dsimp only at h
  (repeat' split at h) <;> (subst h; simp)

@[simp] theorem wakeStartBit_frame (s : State) :
    (wakeStartBit s).powered = s.powered ∧ (wakeStartBit s).settings = s.settings
      ∧ (wakeStartBit s).store = s.store ∧ (wakeStartBit s).defaulted = s.defaulted
      ∧ (wakeStartBit s).saving = s.saving ∧ (wakeStartBit s).slowPeriod = s.slowPeriod
      ∧ (wakeStartBit s).account = s.account ∧ (wakeStartBit s).drive = s.drive ∧ (wakeStartBit s).adm = s.adm
      ∧ (wakeStartBit s).tanks = s.tanks ∧ (wakeStartBit s).water = s.water ∧ (wakeStartBit s).heater = s.heater
      ∧ (wakeStartBit s).frost = s.frost ∧ (wakeStartBit s).motion = s.motion
      ∧ (wakeStartBit s).runner = s.runner ∧ (wakeStartBit s).ports = s.ports
      ∧ (wakeStartBit s).restarting = s.restarting ∧ (wakeStartBit s).pending = s.pending
      ∧ (wakeStartBit s).links = s.links := by
  generalize h : (wakeStartBit s) = t
  unfold wakeStartBit at h
  try dsimp only at h
  (repeat' split at h) <;> (subst h; simp)

@[simp] theorem sleepFrame_frame (s : State) :
    (sleepFrame s).powered = s.powered ∧ (sleepFrame s).settings = s.settings ∧ (sleepFrame s).store = s.store
      ∧ (sleepFrame s).defaulted = s.defaulted ∧ (sleepFrame s).saving = s.saving
      ∧ (sleepFrame s).slowPeriod = s.slowPeriod ∧ (sleepFrame s).account = s.account
      ∧ (sleepFrame s).drive = s.drive ∧ (sleepFrame s).adm = s.adm ∧ (sleepFrame s).tanks = s.tanks
      ∧ (sleepFrame s).water = s.water ∧ (sleepFrame s).heater = s.heater ∧ (sleepFrame s).frost = s.frost
      ∧ (sleepFrame s).motion = s.motion ∧ (sleepFrame s).light = s.light ∧ (sleepFrame s).runner = s.runner
      ∧ (sleepFrame s).ports = s.ports ∧ (sleepFrame s).restarting = s.restarting
      ∧ (sleepFrame s).pending = s.pending ∧ (sleepFrame s).links = s.links := by
  generalize h : (sleepFrame s) = t
  unfold sleepFrame at h
  try dsimp only at h
  (repeat' split at h) <;> (subst h; simp)

@[simp] theorem clearQuietMark_frame (s : State) :
    (clearQuietMark s).powered = s.powered ∧ (clearQuietMark s).settings = s.settings
      ∧ (clearQuietMark s).store = s.store ∧ (clearQuietMark s).defaulted = s.defaulted
      ∧ (clearQuietMark s).saving = s.saving ∧ (clearQuietMark s).slowPeriod = s.slowPeriod
      ∧ (clearQuietMark s).account = s.account ∧ (clearQuietMark s).drive = s.drive
      ∧ (clearQuietMark s).adm = s.adm ∧ (clearQuietMark s).tanks = s.tanks ∧ (clearQuietMark s).water = s.water
      ∧ (clearQuietMark s).heater = s.heater ∧ (clearQuietMark s).frost = s.frost
      ∧ (clearQuietMark s).motion = s.motion ∧ (clearQuietMark s).light = s.light
      ∧ (clearQuietMark s).runner = s.runner ∧ (clearQuietMark s).ports = s.ports
      ∧ (clearQuietMark s).restarting = s.restarting ∧ (clearQuietMark s).pending = s.pending
      ∧ (clearQuietMark s).links = s.links := by
  generalize h : (clearQuietMark s) = t
  unfold clearQuietMark at h
  try dsimp only at h
  (repeat' split at h) <;> (subst h; simp)

@[simp] theorem quietReport_frame (s : State) :
    (quietReport s).powered = s.powered ∧ (quietReport s).settings = s.settings
      ∧ (quietReport s).store = s.store ∧ (quietReport s).defaulted = s.defaulted
      ∧ (quietReport s).saving = s.saving ∧ (quietReport s).slowPeriod = s.slowPeriod
      ∧ (quietReport s).account = s.account ∧ (quietReport s).drive = s.drive ∧ (quietReport s).adm = s.adm
      ∧ (quietReport s).tanks = s.tanks ∧ (quietReport s).water = s.water ∧ (quietReport s).heater = s.heater
      ∧ (quietReport s).frost = s.frost ∧ (quietReport s).motion = s.motion ∧ (quietReport s).light = s.light
      ∧ (quietReport s).runner = s.runner ∧ (quietReport s).ports = s.ports
      ∧ (quietReport s).restarting = s.restarting ∧ (quietReport s).pending = s.pending
      ∧ (quietReport s).links = s.links := by
  generalize h : (quietReport s) = t
  unfold quietReport at h
  try dsimp only at h
  (repeat' split at h) <;> (subst h; simp)

@[simp] theorem idleReached_frame (s : State) :
    (idleReached s).powered = s.powered ∧ (idleReached s).settings = s.settings
      ∧ (idleReached s).store = s.store ∧ (idleReached s).defaulted = s.defaulted
      ∧ (idleReached s).saving = s.saving ∧ (idleReached s).slowPeriod = s.slowPeriod
      ∧ (idleReached s).account = s.account ∧ (idleReached s).drive = s.drive ∧ (idleReached s).adm = s.adm
      ∧ (idleReached s).tanks = s.tanks ∧ (idleReached s).water = s.water ∧ (idleReached s).heater = s.heater
      ∧ (idleReached s).frost = s.frost ∧ (idleReached s).motion = s.motion ∧ (idleReached s).light = s.light
      ∧ (idleReached s).runner = s.runner ∧ (idleReached s).ports = s.ports
      ∧ (idleReached s).restarting = s.restarting ∧ (idleReached s).pending = s.pending
      ∧ (idleReached s).links = s.links := by
  generalize h : (idleReached s) = t
  unfold idleReached at h
  try dsimp only at h
  (repeat' split at h) <;> (subst h; simp)

/-! ### Water -/

@[simp] theorem pumpAsk_frame (s : State) :
    (pumpAsk s).powered = s.powered ∧ (pumpAsk s).settings = s.settings ∧ (pumpAsk s).store = s.store
      ∧ (pumpAsk s).defaulted = s.defaulted ∧ (pumpAsk s).saving = s.saving
      ∧ (pumpAsk s).slowPeriod = s.slowPeriod ∧ (pumpAsk s).account = s.account ∧ (pumpAsk s).drive = s.drive
      ∧ (pumpAsk s).tanks = s.tanks ∧ (pumpAsk s).heater = s.heater ∧ (pumpAsk s).frost = s.frost
      ∧ (pumpAsk s).motion = s.motion ∧ (pumpAsk s).light = s.light ∧ (pumpAsk s).runner = s.runner
      ∧ (pumpAsk s).ports = s.ports ∧ (pumpAsk s).restarting = s.restarting ∧ (pumpAsk s).sleep = s.sleep
      ∧ (pumpAsk s).pending = s.pending ∧ (pumpAsk s).links = s.links := by
  generalize h : (pumpAsk s) = t
  unfold pumpAsk at h
  try dsimp only at h
  (repeat' split at h) <;> (subst h; simp)

@[simp] theorem pumpReady_frame (s : State) :
    (pumpReady s).powered = s.powered ∧ (pumpReady s).settings = s.settings ∧ (pumpReady s).store = s.store
      ∧ (pumpReady s).defaulted = s.defaulted ∧ (pumpReady s).saving = s.saving
      ∧ (pumpReady s).slowPeriod = s.slowPeriod ∧ (pumpReady s).account = s.account
      ∧ (pumpReady s).drive = s.drive ∧ (pumpReady s).tanks = s.tanks ∧ (pumpReady s).heater = s.heater
      ∧ (pumpReady s).frost = s.frost ∧ (pumpReady s).motion = s.motion ∧ (pumpReady s).light = s.light
      ∧ (pumpReady s).runner = s.runner ∧ (pumpReady s).ports = s.ports
      ∧ (pumpReady s).restarting = s.restarting ∧ (pumpReady s).sleep = s.sleep
      ∧ (pumpReady s).pending = s.pending ∧ (pumpReady s).links = s.links := by
  generalize h : (pumpReady s) = t
  unfold pumpReady at h
  try dsimp only at h
  (repeat' split at h) <;> (subst h; simp)

@[simp] theorem pumpStop_frame (dest : PumpState) (lock : LockCause) (s : State) :
    (pumpStop dest lock s).powered = s.powered ∧ (pumpStop dest lock s).settings = s.settings
      ∧ (pumpStop dest lock s).store = s.store ∧ (pumpStop dest lock s).defaulted = s.defaulted
      ∧ (pumpStop dest lock s).saving = s.saving ∧ (pumpStop dest lock s).slowPeriod = s.slowPeriod
      ∧ (pumpStop dest lock s).account = s.account ∧ (pumpStop dest lock s).drive = s.drive
      ∧ (pumpStop dest lock s).tanks = s.tanks ∧ (pumpStop dest lock s).heater = s.heater
      ∧ (pumpStop dest lock s).frost = s.frost ∧ (pumpStop dest lock s).motion = s.motion
      ∧ (pumpStop dest lock s).light = s.light ∧ (pumpStop dest lock s).runner = s.runner
      ∧ (pumpStop dest lock s).ports = s.ports ∧ (pumpStop dest lock s).restarting = s.restarting
      ∧ (pumpStop dest lock s).sleep = s.sleep ∧ (pumpStop dest lock s).pending = s.pending
      ∧ (pumpStop dest lock s).links = s.links := by
  generalize h : (pumpStop dest lock s) = t
  unfold pumpStop at h
  try dsimp only at h
  (repeat' split at h) <;> (subst h; simp)

@[simp] theorem dryLock_frame (s : State) :
    (dryLock s).powered = s.powered ∧ (dryLock s).settings = s.settings ∧ (dryLock s).store = s.store
      ∧ (dryLock s).defaulted = s.defaulted ∧ (dryLock s).saving = s.saving
      ∧ (dryLock s).slowPeriod = s.slowPeriod ∧ (dryLock s).account = s.account ∧ (dryLock s).drive = s.drive
      ∧ (dryLock s).tanks = s.tanks ∧ (dryLock s).heater = s.heater ∧ (dryLock s).frost = s.frost
      ∧ (dryLock s).motion = s.motion ∧ (dryLock s).light = s.light ∧ (dryLock s).runner = s.runner
      ∧ (dryLock s).links = s.links ∧ (dryLock s).restarting = s.restarting ∧ (dryLock s).sleep = s.sleep
      ∧ (dryLock s).pending = s.pending := by
  generalize h : (dryLock s) = t
  unfold dryLock at h
  try dsimp only at h
  (repeat' split at h) <;> (subst h; simp)

@[simp] theorem dryReached_frame (s : State) :
    (dryReached s).powered = s.powered ∧ (dryReached s).settings = s.settings ∧ (dryReached s).store = s.store
      ∧ (dryReached s).defaulted = s.defaulted ∧ (dryReached s).saving = s.saving
      ∧ (dryReached s).slowPeriod = s.slowPeriod ∧ (dryReached s).account = s.account
      ∧ (dryReached s).drive = s.drive ∧ (dryReached s).tanks = s.tanks ∧ (dryReached s).heater = s.heater
      ∧ (dryReached s).frost = s.frost ∧ (dryReached s).motion = s.motion ∧ (dryReached s).light = s.light
      ∧ (dryReached s).runner = s.runner ∧ (dryReached s).links = s.links
      ∧ (dryReached s).restarting = s.restarting ∧ (dryReached s).sleep = s.sleep
      ∧ (dryReached s).pending = s.pending := by
  generalize h : (dryReached s) = t
  unfold dryReached at h
  try dsimp only at h
  (repeat' split at h) <;> (subst h; simp)

@[simp] theorem pumpSwitch_frame (switch : Nat) (s : State) :
    (pumpSwitch switch s).2.powered = s.powered ∧ (pumpSwitch switch s).2.settings = s.settings
      ∧ (pumpSwitch switch s).2.store = s.store ∧ (pumpSwitch switch s).2.defaulted = s.defaulted
      ∧ (pumpSwitch switch s).2.saving = s.saving ∧ (pumpSwitch switch s).2.slowPeriod = s.slowPeriod
      ∧ (pumpSwitch switch s).2.account = s.account ∧ (pumpSwitch switch s).2.drive = s.drive
      ∧ (pumpSwitch switch s).2.tanks = s.tanks ∧ (pumpSwitch switch s).2.heater = s.heater
      ∧ (pumpSwitch switch s).2.frost = s.frost ∧ (pumpSwitch switch s).2.motion = s.motion
      ∧ (pumpSwitch switch s).2.light = s.light ∧ (pumpSwitch switch s).2.runner = s.runner
      ∧ (pumpSwitch switch s).2.ports = s.ports ∧ (pumpSwitch switch s).2.restarting = s.restarting
      ∧ (pumpSwitch switch s).2.sleep = s.sleep ∧ (pumpSwitch switch s).2.pending = s.pending
      ∧ (pumpSwitch switch s).2.links = s.links := by
  generalize h : (pumpSwitch switch s) = t
  unfold pumpSwitch at h
  try dsimp only at h
  (repeat' split at h) <;> (subst h; simp)

@[simp] theorem pressureChange_frame (active : Bool) (s : State) :
    (pressureChange active s).powered = s.powered ∧ (pressureChange active s).settings = s.settings
      ∧ (pressureChange active s).store = s.store ∧ (pressureChange active s).defaulted = s.defaulted
      ∧ (pressureChange active s).saving = s.saving ∧ (pressureChange active s).slowPeriod = s.slowPeriod
      ∧ (pressureChange active s).account = s.account ∧ (pressureChange active s).drive = s.drive
      ∧ (pressureChange active s).tanks = s.tanks ∧ (pressureChange active s).heater = s.heater
      ∧ (pressureChange active s).frost = s.frost ∧ (pressureChange active s).motion = s.motion
      ∧ (pressureChange active s).runner = s.runner ∧ (pressureChange active s).ports = s.ports
      ∧ (pressureChange active s).restarting = s.restarting ∧ (pressureChange active s).pending = s.pending
      ∧ (pressureChange active s).links = s.links := by
  generalize h : (pressureChange active s) = t
  unfold pressureChange at h
  try dsimp only at h
  (repeat' split at h) <;> (subst h; simp)

@[simp] theorem pumpGrant_frame (c : Cause) (s : State) :
    (pumpGrant c s).powered = s.powered ∧ (pumpGrant c s).settings = s.settings
      ∧ (pumpGrant c s).store = s.store ∧ (pumpGrant c s).defaulted = s.defaulted
      ∧ (pumpGrant c s).saving = s.saving ∧ (pumpGrant c s).slowPeriod = s.slowPeriod
      ∧ (pumpGrant c s).account = s.account ∧ (pumpGrant c s).drive = s.drive ∧ (pumpGrant c s).adm = s.adm
      ∧ (pumpGrant c s).tanks = s.tanks ∧ (pumpGrant c s).heater = s.heater ∧ (pumpGrant c s).frost = s.frost
      ∧ (pumpGrant c s).motion = s.motion ∧ (pumpGrant c s).light = s.light ∧ (pumpGrant c s).runner = s.runner
      ∧ (pumpGrant c s).ports = s.ports ∧ (pumpGrant c s).restarting = s.restarting
      ∧ (pumpGrant c s).sleep = s.sleep ∧ (pumpGrant c s).pending = s.pending ∧ (pumpGrant c s).links = s.links := by
  generalize h : (pumpGrant c s) = t
  unfold pumpGrant at h
  try dsimp only at h
  (repeat' split at h) <;> (subst h; simp)

@[simp] theorem pumpDrainOpened_frame (s : State) :
    (pumpDrainOpened s).powered = s.powered ∧ (pumpDrainOpened s).settings = s.settings
      ∧ (pumpDrainOpened s).store = s.store ∧ (pumpDrainOpened s).defaulted = s.defaulted
      ∧ (pumpDrainOpened s).saving = s.saving ∧ (pumpDrainOpened s).slowPeriod = s.slowPeriod
      ∧ (pumpDrainOpened s).account = s.account ∧ (pumpDrainOpened s).drive = s.drive
      ∧ (pumpDrainOpened s).tanks = s.tanks ∧ (pumpDrainOpened s).heater = s.heater
      ∧ (pumpDrainOpened s).frost = s.frost ∧ (pumpDrainOpened s).motion = s.motion
      ∧ (pumpDrainOpened s).light = s.light ∧ (pumpDrainOpened s).runner = s.runner
      ∧ (pumpDrainOpened s).links = s.links ∧ (pumpDrainOpened s).restarting = s.restarting
      ∧ (pumpDrainOpened s).sleep = s.sleep ∧ (pumpDrainOpened s).pending = s.pending := by
  generalize h : (pumpDrainOpened s) = t
  unfold pumpDrainOpened at h
  try dsimp only at h
  (repeat' split at h) <;> (subst h; simp)

@[simp] theorem pumpDrainClosed_frame (s : State) :
    (pumpDrainClosed s).powered = s.powered ∧ (pumpDrainClosed s).settings = s.settings
      ∧ (pumpDrainClosed s).store = s.store ∧ (pumpDrainClosed s).defaulted = s.defaulted
      ∧ (pumpDrainClosed s).saving = s.saving ∧ (pumpDrainClosed s).slowPeriod = s.slowPeriod
      ∧ (pumpDrainClosed s).account = s.account ∧ (pumpDrainClosed s).drive = s.drive
      ∧ (pumpDrainClosed s).adm = s.adm ∧ (pumpDrainClosed s).tanks = s.tanks
      ∧ (pumpDrainClosed s).heater = s.heater ∧ (pumpDrainClosed s).frost = s.frost
      ∧ (pumpDrainClosed s).motion = s.motion ∧ (pumpDrainClosed s).light = s.light
      ∧ (pumpDrainClosed s).runner = s.runner ∧ (pumpDrainClosed s).ports = s.ports
      ∧ (pumpDrainClosed s).restarting = s.restarting ∧ (pumpDrainClosed s).sleep = s.sleep
      ∧ (pumpDrainClosed s).pending = s.pending ∧ (pumpDrainClosed s).links = s.links := by
  generalize h : (pumpDrainClosed s) = t
  unfold pumpDrainClosed at h
  try dsimp only at h
  (repeat' split at h) <;> (subst h; simp)

@[simp] theorem scanStart_frame (t : TankId) (s : State) :
    (scanStart t s).powered = s.powered ∧ (scanStart t s).settings = s.settings
      ∧ (scanStart t s).store = s.store ∧ (scanStart t s).defaulted = s.defaulted
      ∧ (scanStart t s).saving = s.saving ∧ (scanStart t s).slowPeriod = s.slowPeriod
      ∧ (scanStart t s).account = s.account ∧ (scanStart t s).drive = s.drive ∧ (scanStart t s).adm = s.adm
      ∧ (scanStart t s).water = s.water ∧ (scanStart t s).heater = s.heater ∧ (scanStart t s).frost = s.frost
      ∧ (scanStart t s).motion = s.motion ∧ (scanStart t s).light = s.light ∧ (scanStart t s).runner = s.runner
      ∧ (scanStart t s).ports = s.ports ∧ (scanStart t s).restarting = s.restarting
      ∧ (scanStart t s).sleep = s.sleep ∧ (scanStart t s).pending = s.pending ∧ (scanStart t s).links = s.links := by
  generalize h : (scanStart t s) = t
  unfold scanStart at h
  try dsimp only at h
  (repeat' split at h) <;> (subst h; simp)

@[simp] theorem recordReading_frame (t : TankId) (r : List Bool) (s : State) :
    (recordReading t r s).powered = s.powered ∧ (recordReading t r s).settings = s.settings
      ∧ (recordReading t r s).store = s.store ∧ (recordReading t r s).defaulted = s.defaulted
      ∧ (recordReading t r s).saving = s.saving ∧ (recordReading t r s).slowPeriod = s.slowPeriod
      ∧ (recordReading t r s).account = s.account ∧ (recordReading t r s).drive = s.drive
      ∧ (recordReading t r s).adm = s.adm ∧ (recordReading t r s).water = s.water
      ∧ (recordReading t r s).heater = s.heater ∧ (recordReading t r s).frost = s.frost
      ∧ (recordReading t r s).motion = s.motion ∧ (recordReading t r s).light = s.light
      ∧ (recordReading t r s).runner = s.runner ∧ (recordReading t r s).links = s.links
      ∧ (recordReading t r s).restarting = s.restarting ∧ (recordReading t r s).sleep = s.sleep
      ∧ (recordReading t r s).pending = s.pending := by
  generalize h : (recordReading t r s) = t
  unfold recordReading at h
  try dsimp only at h
  (repeat' split at h) <;> (subst h; simp)

@[simp] theorem acceptWaste_frame (t : TankId) (c : Nat) (s : State) :
    (acceptWaste t c s).powered = s.powered ∧ (acceptWaste t c s).settings = s.settings
      ∧ (acceptWaste t c s).store = s.store ∧ (acceptWaste t c s).defaulted = s.defaulted
      ∧ (acceptWaste t c s).saving = s.saving ∧ (acceptWaste t c s).slowPeriod = s.slowPeriod
      ∧ (acceptWaste t c s).account = s.account ∧ (acceptWaste t c s).drive = s.drive
      ∧ (acceptWaste t c s).adm = s.adm ∧ (acceptWaste t c s).water = s.water
      ∧ (acceptWaste t c s).heater = s.heater ∧ (acceptWaste t c s).frost = s.frost
      ∧ (acceptWaste t c s).motion = s.motion ∧ (acceptWaste t c s).light = s.light
      ∧ (acceptWaste t c s).runner = s.runner ∧ (acceptWaste t c s).links = s.links
      ∧ (acceptWaste t c s).restarting = s.restarting ∧ (acceptWaste t c s).sleep = s.sleep
      ∧ (acceptWaste t c s).pending = s.pending := by
  generalize h : (acceptWaste t c s) = t
  unfold acceptWaste at h
  try dsimp only at h
  (repeat' split at h) <;> (subst h; simp)

@[simp] theorem dryAtEmpty_frame (c : Nat) (s : State) :
    (dryAtEmpty c s).powered = s.powered ∧ (dryAtEmpty c s).settings = s.settings
      ∧ (dryAtEmpty c s).store = s.store ∧ (dryAtEmpty c s).defaulted = s.defaulted
      ∧ (dryAtEmpty c s).saving = s.saving ∧ (dryAtEmpty c s).slowPeriod = s.slowPeriod
      ∧ (dryAtEmpty c s).account = s.account ∧ (dryAtEmpty c s).drive = s.drive
      ∧ (dryAtEmpty c s).tanks = s.tanks ∧ (dryAtEmpty c s).heater = s.heater
      ∧ (dryAtEmpty c s).frost = s.frost ∧ (dryAtEmpty c s).motion = s.motion
      ∧ (dryAtEmpty c s).light = s.light ∧ (dryAtEmpty c s).runner = s.runner
      ∧ (dryAtEmpty c s).links = s.links ∧ (dryAtEmpty c s).restarting = s.restarting
      ∧ (dryAtEmpty c s).sleep = s.sleep ∧ (dryAtEmpty c s).pending = s.pending := by
  generalize h : (dryAtEmpty c s) = t
  unfold dryAtEmpty at h
  try dsimp only at h
  (repeat' split at h) <;> (subst h; simp)

@[simp] theorem acceptFresh_frame (old : Option Nat) (c : Nat) (s : State) :
    (acceptFresh old c s).powered = s.powered ∧ (acceptFresh old c s).settings = s.settings
      ∧ (acceptFresh old c s).store = s.store ∧ (acceptFresh old c s).defaulted = s.defaulted
      ∧ (acceptFresh old c s).saving = s.saving ∧ (acceptFresh old c s).slowPeriod = s.slowPeriod
      ∧ (acceptFresh old c s).account = s.account ∧ (acceptFresh old c s).drive = s.drive
      ∧ (acceptFresh old c s).tanks = s.tanks ∧ (acceptFresh old c s).heater = s.heater
      ∧ (acceptFresh old c s).frost = s.frost ∧ (acceptFresh old c s).motion = s.motion
      ∧ (acceptFresh old c s).light = s.light ∧ (acceptFresh old c s).runner = s.runner
      ∧ (acceptFresh old c s).links = s.links ∧ (acceptFresh old c s).restarting = s.restarting
      ∧ (acceptFresh old c s).sleep = s.sleep ∧ (acceptFresh old c s).pending = s.pending := by
  generalize h : (acceptFresh old c s) = t
  unfold acceptFresh at h
  try dsimp only at h
  (repeat' split at h) <;> (subst h; simp)

@[simp] theorem acceptStep_frame (t : TankId) (c : Nat) (s : State) :
    (acceptStep t c s).powered = s.powered ∧ (acceptStep t c s).settings = s.settings
      ∧ (acceptStep t c s).store = s.store ∧ (acceptStep t c s).defaulted = s.defaulted
      ∧ (acceptStep t c s).saving = s.saving ∧ (acceptStep t c s).slowPeriod = s.slowPeriod
      ∧ (acceptStep t c s).account = s.account ∧ (acceptStep t c s).drive = s.drive
      ∧ (acceptStep t c s).heater = s.heater ∧ (acceptStep t c s).frost = s.frost
      ∧ (acceptStep t c s).motion = s.motion ∧ (acceptStep t c s).light = s.light
      ∧ (acceptStep t c s).runner = s.runner ∧ (acceptStep t c s).links = s.links
      ∧ (acceptStep t c s).restarting = s.restarting ∧ (acceptStep t c s).sleep = s.sleep
      ∧ (acceptStep t c s).pending = s.pending := by
  generalize h : (acceptStep t c s) = t
  unfold acceptStep at h
  try dsimp only at h
  (repeat' split at h) <;> (subst h; simp)

@[simp] theorem judgeCount_frame (t : TankId) (c : Nat) (s : State) :
    (judgeCount t c s).powered = s.powered ∧ (judgeCount t c s).settings = s.settings
      ∧ (judgeCount t c s).store = s.store ∧ (judgeCount t c s).defaulted = s.defaulted
      ∧ (judgeCount t c s).saving = s.saving ∧ (judgeCount t c s).slowPeriod = s.slowPeriod
      ∧ (judgeCount t c s).account = s.account ∧ (judgeCount t c s).drive = s.drive
      ∧ (judgeCount t c s).heater = s.heater ∧ (judgeCount t c s).frost = s.frost
      ∧ (judgeCount t c s).motion = s.motion ∧ (judgeCount t c s).light = s.light
      ∧ (judgeCount t c s).runner = s.runner ∧ (judgeCount t c s).links = s.links
      ∧ (judgeCount t c s).restarting = s.restarting ∧ (judgeCount t c s).sleep = s.sleep
      ∧ (judgeCount t c s).pending = s.pending := by
  generalize h : (judgeCount t c s) = t
  unfold judgeCount at h
  try dsimp only at h
  (repeat' split at h) <;> (subst h; simp)

@[simp] theorem scanComplete_frame (t : TankId) (wet : Byte) (s : State) :
    (scanComplete t wet s).powered = s.powered ∧ (scanComplete t wet s).settings = s.settings
      ∧ (scanComplete t wet s).store = s.store ∧ (scanComplete t wet s).defaulted = s.defaulted
      ∧ (scanComplete t wet s).saving = s.saving ∧ (scanComplete t wet s).slowPeriod = s.slowPeriod
      ∧ (scanComplete t wet s).account = s.account ∧ (scanComplete t wet s).drive = s.drive
      ∧ (scanComplete t wet s).heater = s.heater ∧ (scanComplete t wet s).frost = s.frost
      ∧ (scanComplete t wet s).motion = s.motion ∧ (scanComplete t wet s).light = s.light
      ∧ (scanComplete t wet s).runner = s.runner ∧ (scanComplete t wet s).links = s.links
      ∧ (scanComplete t wet s).restarting = s.restarting ∧ (scanComplete t wet s).sleep = s.sleep
      ∧ (scanComplete t wet s).pending = s.pending := by
  generalize h : (scanComplete t wet s) = t
  unfold scanComplete at h
  try dsimp only at h
  (repeat' split at h) <;> (subst h; simp)

@[simp] theorem flowPulse_frame (s : State) :
    (flowPulse s).powered = s.powered ∧ (flowPulse s).settings = s.settings ∧ (flowPulse s).store = s.store
      ∧ (flowPulse s).defaulted = s.defaulted ∧ (flowPulse s).saving = s.saving
      ∧ (flowPulse s).slowPeriod = s.slowPeriod ∧ (flowPulse s).account = s.account
      ∧ (flowPulse s).drive = s.drive ∧ (flowPulse s).adm = s.adm ∧ (flowPulse s).tanks = s.tanks
      ∧ (flowPulse s).heater = s.heater ∧ (flowPulse s).frost = s.frost ∧ (flowPulse s).motion = s.motion
      ∧ (flowPulse s).light = s.light ∧ (flowPulse s).runner = s.runner ∧ (flowPulse s).ports = s.ports
      ∧ (flowPulse s).restarting = s.restarting ∧ (flowPulse s).sleep = s.sleep
      ∧ (flowPulse s).pending = s.pending ∧ (flowPulse s).links = s.links := by
  generalize h : (flowPulse s) = t
  unfold flowPulse at h
  try dsimp only at h
  (repeat' split at h) <;> (subst h; simp)

@[simp] theorem padsSample_frame (water : Option Int) (s : State) :
    (padsSample water s).powered = s.powered ∧ (padsSample water s).settings = s.settings
      ∧ (padsSample water s).store = s.store ∧ (padsSample water s).defaulted = s.defaulted
      ∧ (padsSample water s).saving = s.saving ∧ (padsSample water s).slowPeriod = s.slowPeriod
      ∧ (padsSample water s).account = s.account ∧ (padsSample water s).drive = s.drive
      ∧ (padsSample water s).tanks = s.tanks ∧ (padsSample water s).heater = s.heater
      ∧ (padsSample water s).frost = s.frost ∧ (padsSample water s).motion = s.motion
      ∧ (padsSample water s).light = s.light ∧ (padsSample water s).runner = s.runner
      ∧ (padsSample water s).ports = s.ports ∧ (padsSample water s).restarting = s.restarting
      ∧ (padsSample water s).sleep = s.sleep ∧ (padsSample water s).pending = s.pending
      ∧ (padsSample water s).links = s.links := by
  generalize h : (padsSample water s) = t
  unfold padsSample at h
  try dsimp only at h
  (repeat' split at h) <;> (subst h; simp)

/-! ### Heater -/

@[simp] theorem openDrain_frame (r : DrainReason) (s : State) :
    (openDrain r s).powered = s.powered ∧ (openDrain r s).settings = s.settings
      ∧ (openDrain r s).store = s.store ∧ (openDrain r s).defaulted = s.defaulted
      ∧ (openDrain r s).saving = s.saving ∧ (openDrain r s).slowPeriod = s.slowPeriod
      ∧ (openDrain r s).account = s.account ∧ (openDrain r s).drive = s.drive ∧ (openDrain r s).tanks = s.tanks
      ∧ (openDrain r s).heater = s.heater ∧ (openDrain r s).motion = s.motion ∧ (openDrain r s).light = s.light
      ∧ (openDrain r s).runner = s.runner ∧ (openDrain r s).links = s.links
      ∧ (openDrain r s).restarting = s.restarting ∧ (openDrain r s).sleep = s.sleep
      ∧ (openDrain r s).pending = s.pending := by
  generalize h : (openDrain r s) = t
  unfold openDrain at h
  try dsimp only at h
  (repeat' split at h) <;> (subst h; simp)

@[simp] theorem closeDrain_frame (s : State) :
    (closeDrain s).powered = s.powered ∧ (closeDrain s).settings = s.settings ∧ (closeDrain s).store = s.store
      ∧ (closeDrain s).defaulted = s.defaulted ∧ (closeDrain s).saving = s.saving
      ∧ (closeDrain s).slowPeriod = s.slowPeriod ∧ (closeDrain s).account = s.account
      ∧ (closeDrain s).drive = s.drive ∧ (closeDrain s).tanks = s.tanks ∧ (closeDrain s).heater = s.heater
      ∧ (closeDrain s).motion = s.motion ∧ (closeDrain s).light = s.light ∧ (closeDrain s).runner = s.runner
      ∧ (closeDrain s).links = s.links ∧ (closeDrain s).restarting = s.restarting
      ∧ (closeDrain s).sleep = s.sleep ∧ (closeDrain s).pending = s.pending := by
  generalize h : (closeDrain s) = t
  unfold closeDrain at h
  try dsimp only at h
  (repeat' split at h) <;> (subst h; simp)

@[simp] theorem frostRelease_frame (s : State) :
    (frostRelease s).powered = s.powered ∧ (frostRelease s).settings = s.settings
      ∧ (frostRelease s).store = s.store ∧ (frostRelease s).defaulted = s.defaulted
      ∧ (frostRelease s).saving = s.saving ∧ (frostRelease s).slowPeriod = s.slowPeriod
      ∧ (frostRelease s).account = s.account ∧ (frostRelease s).drive = s.drive
      ∧ (frostRelease s).tanks = s.tanks ∧ (frostRelease s).heater = s.heater
      ∧ (frostRelease s).motion = s.motion ∧ (frostRelease s).light = s.light
      ∧ (frostRelease s).runner = s.runner ∧ (frostRelease s).links = s.links
      ∧ (frostRelease s).restarting = s.restarting ∧ (frostRelease s).sleep = s.sleep
      ∧ (frostRelease s).pending = s.pending := by
  generalize h : (frostRelease s) = t
  unfold frostRelease at h
  try dsimp only at h
  (repeat' split at h) <;> (subst h; simp)

@[simp] theorem openDrainRequest_frame (s : State) :
    (openDrainRequest s).2.powered = s.powered ∧ (openDrainRequest s).2.settings = s.settings
      ∧ (openDrainRequest s).2.store = s.store ∧ (openDrainRequest s).2.defaulted = s.defaulted
      ∧ (openDrainRequest s).2.saving = s.saving ∧ (openDrainRequest s).2.slowPeriod = s.slowPeriod
      ∧ (openDrainRequest s).2.account = s.account ∧ (openDrainRequest s).2.drive = s.drive
      ∧ (openDrainRequest s).2.tanks = s.tanks ∧ (openDrainRequest s).2.heater = s.heater
      ∧ (openDrainRequest s).2.motion = s.motion ∧ (openDrainRequest s).2.light = s.light
      ∧ (openDrainRequest s).2.runner = s.runner ∧ (openDrainRequest s).2.links = s.links
      ∧ (openDrainRequest s).2.restarting = s.restarting ∧ (openDrainRequest s).2.sleep = s.sleep
      ∧ (openDrainRequest s).2.pending = s.pending := by
  generalize h : (openDrainRequest s) = t
  unfold openDrainRequest at h
  try dsimp only at h
  (repeat' split at h) <;> (subst h; simp)

@[simp] theorem closeDrainRequest_frame (s : State) :
    (closeDrainRequest s).2.powered = s.powered ∧ (closeDrainRequest s).2.settings = s.settings
      ∧ (closeDrainRequest s).2.store = s.store ∧ (closeDrainRequest s).2.defaulted = s.defaulted
      ∧ (closeDrainRequest s).2.saving = s.saving ∧ (closeDrainRequest s).2.slowPeriod = s.slowPeriod
      ∧ (closeDrainRequest s).2.account = s.account ∧ (closeDrainRequest s).2.drive = s.drive
      ∧ (closeDrainRequest s).2.tanks = s.tanks ∧ (closeDrainRequest s).2.heater = s.heater
      ∧ (closeDrainRequest s).2.motion = s.motion ∧ (closeDrainRequest s).2.light = s.light
      ∧ (closeDrainRequest s).2.runner = s.runner ∧ (closeDrainRequest s).2.links = s.links
      ∧ (closeDrainRequest s).2.restarting = s.restarting ∧ (closeDrainRequest s).2.sleep = s.sleep
      ∧ (closeDrainRequest s).2.pending = s.pending := by
  generalize h : (closeDrainRequest s) = t
  unfold closeDrainRequest at h
  try dsimp only at h
  (repeat' split at h) <;> (subst h; simp)

@[simp] theorem enterState_frame (h : HeaterState) (s : State) :
    (enterState h s).powered = s.powered ∧ (enterState h s).settings = s.settings
      ∧ (enterState h s).store = s.store ∧ (enterState h s).defaulted = s.defaulted
      ∧ (enterState h s).saving = s.saving ∧ (enterState h s).slowPeriod = s.slowPeriod
      ∧ (enterState h s).account = s.account ∧ (enterState h s).drive = s.drive ∧ (enterState h s).adm = s.adm
      ∧ (enterState h s).tanks = s.tanks ∧ (enterState h s).water = s.water ∧ (enterState h s).frost = s.frost
      ∧ (enterState h s).motion = s.motion ∧ (enterState h s).light = s.light
      ∧ (enterState h s).runner = s.runner ∧ (enterState h s).ports = s.ports
      ∧ (enterState h s).restarting = s.restarting ∧ (enterState h s).sleep = s.sleep
      ∧ (enterState h s).pending = s.pending ∧ (enterState h s).links = s.links := by
  generalize h : (enterState h s) = t
  unfold enterState at h
  try dsimp only at h
  (repeat' split at h) <;> (subst h; simp)

@[simp] theorem startHeater_frame (s : State) :
    (startHeater s).powered = s.powered ∧ (startHeater s).settings = s.settings
      ∧ (startHeater s).store = s.store ∧ (startHeater s).defaulted = s.defaulted
      ∧ (startHeater s).saving = s.saving ∧ (startHeater s).slowPeriod = s.slowPeriod
      ∧ (startHeater s).account = s.account ∧ (startHeater s).drive = s.drive ∧ (startHeater s).tanks = s.tanks
      ∧ (startHeater s).motion = s.motion ∧ (startHeater s).light = s.light ∧ (startHeater s).runner = s.runner
      ∧ (startHeater s).links = s.links ∧ (startHeater s).restarting = s.restarting
      ∧ (startHeater s).sleep = s.sleep ∧ (startHeater s).pending = s.pending := by
  generalize h : (startHeater s) = t
  unfold startHeater at h
  try dsimp only at h
  (repeat' split at h) <;> (subst h; simp)

@[simp] theorem purge_frame (r : PurgeReason) (s : State) :
    (purge r s).powered = s.powered ∧ (purge r s).settings = s.settings ∧ (purge r s).store = s.store
      ∧ (purge r s).defaulted = s.defaulted ∧ (purge r s).saving = s.saving
      ∧ (purge r s).slowPeriod = s.slowPeriod ∧ (purge r s).account = s.account ∧ (purge r s).drive = s.drive
      ∧ (purge r s).tanks = s.tanks ∧ (purge r s).motion = s.motion ∧ (purge r s).light = s.light
      ∧ (purge r s).runner = s.runner ∧ (purge r s).links = s.links ∧ (purge r s).restarting = s.restarting
      ∧ (purge r s).sleep = s.sleep ∧ (purge r s).pending = s.pending := by
  generalize h : (purge r s) = t
  unfold purge at h
  try dsimp only at h
  (repeat' split at h) <;> (subst h; simp)

@[simp] theorem restHeater_frame (h : HeaterState) (s : State) :
    (restHeater h s).powered = s.powered ∧ (restHeater h s).settings = s.settings
      ∧ (restHeater h s).store = s.store ∧ (restHeater h s).defaulted = s.defaulted
      ∧ (restHeater h s).saving = s.saving ∧ (restHeater h s).slowPeriod = s.slowPeriod
      ∧ (restHeater h s).account = s.account ∧ (restHeater h s).drive = s.drive
      ∧ (restHeater h s).tanks = s.tanks ∧ (restHeater h s).motion = s.motion ∧ (restHeater h s).light = s.light
      ∧ (restHeater h s).runner = s.runner ∧ (restHeater h s).links = s.links
      ∧ (restHeater h s).restarting = s.restarting ∧ (restHeater h s).sleep = s.sleep
      ∧ (restHeater h s).pending = s.pending := by
  generalize h : (restHeater h s) = t
  unfold restHeater at h
  try dsimp only at h
  (repeat' split at h) <;> (subst h; simp)

@[simp] theorem setMode_frame (m : HeatMode) (s : State) :
    (setMode m s).powered = s.powered ∧ (setMode m s).settings = s.settings ∧ (setMode m s).store = s.store
      ∧ (setMode m s).defaulted = s.defaulted ∧ (setMode m s).saving = s.saving
      ∧ (setMode m s).slowPeriod = s.slowPeriod ∧ (setMode m s).account = s.account
      ∧ (setMode m s).drive = s.drive ∧ (setMode m s).tanks = s.tanks ∧ (setMode m s).motion = s.motion
      ∧ (setMode m s).light = s.light ∧ (setMode m s).runner = s.runner ∧ (setMode m s).links = s.links
      ∧ (setMode m s).restarting = s.restarting ∧ (setMode m s).sleep = s.sleep
      ∧ (setMode m s).pending = s.pending := by
  generalize h : (setMode m s) = t
  unfold setMode at h
  try dsimp only at h
  (repeat' split at h) <;> (subst h; simp)

@[simp] theorem takeSetpoint_frame (temp : Int) (s : State) :
    (takeSetpoint temp s).powered = s.powered ∧ (takeSetpoint temp s).store = s.store
      ∧ (takeSetpoint temp s).defaulted = s.defaulted ∧ (takeSetpoint temp s).saving = s.saving
      ∧ (takeSetpoint temp s).slowPeriod = s.slowPeriod ∧ (takeSetpoint temp s).account = s.account
      ∧ (takeSetpoint temp s).drive = s.drive ∧ (takeSetpoint temp s).adm = s.adm
      ∧ (takeSetpoint temp s).tanks = s.tanks ∧ (takeSetpoint temp s).water = s.water
      ∧ (takeSetpoint temp s).heater = s.heater ∧ (takeSetpoint temp s).frost = s.frost
      ∧ (takeSetpoint temp s).motion = s.motion ∧ (takeSetpoint temp s).light = s.light
      ∧ (takeSetpoint temp s).runner = s.runner ∧ (takeSetpoint temp s).ports = s.ports
      ∧ (takeSetpoint temp s).restarting = s.restarting ∧ (takeSetpoint temp s).sleep = s.sleep
      ∧ (takeSetpoint temp s).pending = s.pending ∧ (takeSetpoint temp s).links = s.links := by
  generalize h : (takeSetpoint temp s) = t
  unfold takeSetpoint at h
  try dsimp only at h
  (repeat' split at h) <;> (subst h; simp)

@[simp] theorem heatRequest_frame (mode : Nat) (setpoint : Int) (s : State) :
    (heatRequest mode setpoint s).2.powered = s.powered ∧ (heatRequest mode setpoint s).2.store = s.store
      ∧ (heatRequest mode setpoint s).2.defaulted = s.defaulted
      ∧ (heatRequest mode setpoint s).2.saving = s.saving
      ∧ (heatRequest mode setpoint s).2.slowPeriod = s.slowPeriod
      ∧ (heatRequest mode setpoint s).2.account = s.account ∧ (heatRequest mode setpoint s).2.drive = s.drive
      ∧ (heatRequest mode setpoint s).2.tanks = s.tanks ∧ (heatRequest mode setpoint s).2.motion = s.motion
      ∧ (heatRequest mode setpoint s).2.light = s.light ∧ (heatRequest mode setpoint s).2.runner = s.runner
      ∧ (heatRequest mode setpoint s).2.links = s.links
      ∧ (heatRequest mode setpoint s).2.restarting = s.restarting
      ∧ (heatRequest mode setpoint s).2.sleep = s.sleep ∧ (heatRequest mode setpoint s).2.pending = s.pending := by
  generalize h : (heatRequest mode setpoint s) = t
  unfold heatRequest at h
  try dsimp only at h
  (repeat' split at h) <;> (subst h; simp)

@[simp] theorem lvdStop_frame (s : State) :
    (lvdStop s).powered = s.powered ∧ (lvdStop s).settings = s.settings ∧ (lvdStop s).store = s.store
      ∧ (lvdStop s).defaulted = s.defaulted ∧ (lvdStop s).saving = s.saving
      ∧ (lvdStop s).slowPeriod = s.slowPeriod ∧ (lvdStop s).account = s.account ∧ (lvdStop s).drive = s.drive
      ∧ (lvdStop s).tanks = s.tanks ∧ (lvdStop s).motion = s.motion ∧ (lvdStop s).light = s.light
      ∧ (lvdStop s).runner = s.runner ∧ (lvdStop s).links = s.links ∧ (lvdStop s).restarting = s.restarting
      ∧ (lvdStop s).sleep = s.sleep ∧ (lvdStop s).pending = s.pending := by
  generalize h : (lvdStop s) = t
  unfold lvdStop at h
  try dsimp only at h
  (repeat' split at h) <;> (subst h; simp)

@[simp] theorem glowGrant_frame (c : Cause) (s : State) :
    (glowGrant c s).powered = s.powered ∧ (glowGrant c s).settings = s.settings
      ∧ (glowGrant c s).store = s.store ∧ (glowGrant c s).defaulted = s.defaulted
      ∧ (glowGrant c s).saving = s.saving ∧ (glowGrant c s).slowPeriod = s.slowPeriod
      ∧ (glowGrant c s).account = s.account ∧ (glowGrant c s).drive = s.drive ∧ (glowGrant c s).tanks = s.tanks
      ∧ (glowGrant c s).motion = s.motion ∧ (glowGrant c s).light = s.light ∧ (glowGrant c s).runner = s.runner
      ∧ (glowGrant c s).links = s.links ∧ (glowGrant c s).restarting = s.restarting
      ∧ (glowGrant c s).sleep = s.sleep ∧ (glowGrant c s).pending = s.pending := by
  generalize h : (glowGrant c s) = t
  unfold glowGrant at h
  try dsimp only at h
  (repeat' split at h) <;> (subst h; simp)

@[simp] theorem fanGrant_frame (c : Cause) (s : State) :
    (fanGrant c s).powered = s.powered ∧ (fanGrant c s).settings = s.settings ∧ (fanGrant c s).store = s.store
      ∧ (fanGrant c s).defaulted = s.defaulted ∧ (fanGrant c s).saving = s.saving
      ∧ (fanGrant c s).slowPeriod = s.slowPeriod ∧ (fanGrant c s).account = s.account
      ∧ (fanGrant c s).drive = s.drive ∧ (fanGrant c s).tanks = s.tanks ∧ (fanGrant c s).motion = s.motion
      ∧ (fanGrant c s).light = s.light ∧ (fanGrant c s).runner = s.runner ∧ (fanGrant c s).links = s.links
      ∧ (fanGrant c s).restarting = s.restarting ∧ (fanGrant c s).sleep = s.sleep
      ∧ (fanGrant c s).pending = s.pending := by
  generalize h : (fanGrant c s) = t
  unfold fanGrant at h
  try dsimp only at h
  (repeat' split at h) <;> (subst h; simp)

@[simp] theorem glowReached_frame (s : State) :
    (glowReached s).powered = s.powered ∧ (glowReached s).settings = s.settings
      ∧ (glowReached s).store = s.store ∧ (glowReached s).defaulted = s.defaulted
      ∧ (glowReached s).saving = s.saving ∧ (glowReached s).slowPeriod = s.slowPeriod
      ∧ (glowReached s).account = s.account ∧ (glowReached s).drive = s.drive ∧ (glowReached s).tanks = s.tanks
      ∧ (glowReached s).motion = s.motion ∧ (glowReached s).light = s.light ∧ (glowReached s).runner = s.runner
      ∧ (glowReached s).links = s.links ∧ (glowReached s).restarting = s.restarting
      ∧ (glowReached s).sleep = s.sleep ∧ (glowReached s).pending = s.pending := by
  generalize h : (glowReached s) = t
  unfold glowReached at h
  try dsimp only at h
  (repeat' split at h) <;> (subst h; simp)

@[simp] theorem countAttempt_frame (s : State) :
    (countAttempt s).powered = s.powered ∧ (countAttempt s).settings = s.settings
      ∧ (countAttempt s).store = s.store ∧ (countAttempt s).defaulted = s.defaulted
      ∧ (countAttempt s).saving = s.saving ∧ (countAttempt s).slowPeriod = s.slowPeriod
      ∧ (countAttempt s).account = s.account ∧ (countAttempt s).drive = s.drive ∧ (countAttempt s).adm = s.adm
      ∧ (countAttempt s).tanks = s.tanks ∧ (countAttempt s).water = s.water ∧ (countAttempt s).frost = s.frost
      ∧ (countAttempt s).motion = s.motion ∧ (countAttempt s).light = s.light
      ∧ (countAttempt s).runner = s.runner ∧ (countAttempt s).ports = s.ports
      ∧ (countAttempt s).restarting = s.restarting ∧ (countAttempt s).sleep = s.sleep
      ∧ (countAttempt s).pending = s.pending ∧ (countAttempt s).links = s.links := by
  generalize h : (countAttempt s) = t
  unfold countAttempt at h
  try dsimp only at h
  (repeat' split at h) <;> (subst h; simp)

@[simp] theorem igniteReached_frame (s : State) :
    (igniteReached s).powered = s.powered ∧ (igniteReached s).settings = s.settings
      ∧ (igniteReached s).store = s.store ∧ (igniteReached s).defaulted = s.defaulted
      ∧ (igniteReached s).saving = s.saving ∧ (igniteReached s).slowPeriod = s.slowPeriod
      ∧ (igniteReached s).account = s.account ∧ (igniteReached s).drive = s.drive
      ∧ (igniteReached s).tanks = s.tanks ∧ (igniteReached s).motion = s.motion
      ∧ (igniteReached s).light = s.light ∧ (igniteReached s).runner = s.runner
      ∧ (igniteReached s).links = s.links ∧ (igniteReached s).restarting = s.restarting
      ∧ (igniteReached s).sleep = s.sleep ∧ (igniteReached s).pending = s.pending := by
  generalize h : (igniteReached s) = t
  unfold igniteReached at h
  try dsimp only at h
  (repeat' split at h) <;> (subst h; simp)

@[simp] theorem flameOutReached_frame (s : State) :
    (flameOutReached s).powered = s.powered ∧ (flameOutReached s).settings = s.settings
      ∧ (flameOutReached s).store = s.store ∧ (flameOutReached s).defaulted = s.defaulted
      ∧ (flameOutReached s).saving = s.saving ∧ (flameOutReached s).slowPeriod = s.slowPeriod
      ∧ (flameOutReached s).account = s.account ∧ (flameOutReached s).drive = s.drive
      ∧ (flameOutReached s).tanks = s.tanks ∧ (flameOutReached s).motion = s.motion
      ∧ (flameOutReached s).light = s.light ∧ (flameOutReached s).runner = s.runner
      ∧ (flameOutReached s).links = s.links ∧ (flameOutReached s).restarting = s.restarting
      ∧ (flameOutReached s).sleep = s.sleep ∧ (flameOutReached s).pending = s.pending := by
  generalize h : (flameOutReached s) = t
  unfold flameOutReached at h
  try dsimp only at h
  (repeat' split at h) <;> (subst h; simp)

@[simp] theorem enterLockout_frame (cause : LockoutCause) (s : State) :
    (enterLockout cause s).powered = s.powered ∧ (enterLockout cause s).settings = s.settings
      ∧ (enterLockout cause s).store = s.store ∧ (enterLockout cause s).defaulted = s.defaulted
      ∧ (enterLockout cause s).saving = s.saving ∧ (enterLockout cause s).slowPeriod = s.slowPeriod
      ∧ (enterLockout cause s).account = s.account ∧ (enterLockout cause s).drive = s.drive
      ∧ (enterLockout cause s).tanks = s.tanks ∧ (enterLockout cause s).motion = s.motion
      ∧ (enterLockout cause s).light = s.light ∧ (enterLockout cause s).runner = s.runner
      ∧ (enterLockout cause s).links = s.links ∧ (enterLockout cause s).restarting = s.restarting
      ∧ (enterLockout cause s).sleep = s.sleep ∧ (enterLockout cause s).pending = s.pending := by
  generalize h : (enterLockout cause s) = t
  unfold enterLockout at h
  try dsimp only at h
  (repeat' split at h) <;> (subst h; simp)

@[simp] theorem heaterOff_frame (s : State) :
    (heaterOff s).powered = s.powered ∧ (heaterOff s).settings = s.settings ∧ (heaterOff s).store = s.store
      ∧ (heaterOff s).defaulted = s.defaulted ∧ (heaterOff s).saving = s.saving
      ∧ (heaterOff s).slowPeriod = s.slowPeriod ∧ (heaterOff s).account = s.account
      ∧ (heaterOff s).drive = s.drive ∧ (heaterOff s).tanks = s.tanks ∧ (heaterOff s).motion = s.motion
      ∧ (heaterOff s).light = s.light ∧ (heaterOff s).runner = s.runner ∧ (heaterOff s).links = s.links
      ∧ (heaterOff s).restarting = s.restarting ∧ (heaterOff s).sleep = s.sleep
      ∧ (heaterOff s).pending = s.pending := by
  generalize h : (heaterOff s) = t
  unfold heaterOff at h
  try dsimp only at h
  (repeat' split at h) <;> (subst h; simp)

@[simp] theorem restartHeater_frame (s : State) :
    (restartHeater s).powered = s.powered ∧ (restartHeater s).settings = s.settings
      ∧ (restartHeater s).store = s.store ∧ (restartHeater s).defaulted = s.defaulted
      ∧ (restartHeater s).saving = s.saving ∧ (restartHeater s).slowPeriod = s.slowPeriod
      ∧ (restartHeater s).account = s.account ∧ (restartHeater s).drive = s.drive
      ∧ (restartHeater s).tanks = s.tanks ∧ (restartHeater s).motion = s.motion
      ∧ (restartHeater s).light = s.light ∧ (restartHeater s).runner = s.runner
      ∧ (restartHeater s).links = s.links ∧ (restartHeater s).restarting = s.restarting
      ∧ (restartHeater s).sleep = s.sleep ∧ (restartHeater s).pending = s.pending := by
  generalize h : (restartHeater s) = t
  unfold restartHeater at h
  try dsimp only at h
  (repeat' split at h) <;> (subst h; simp)

@[simp] theorem purgeReached_frame (s : State) :
    (purgeReached s).powered = s.powered ∧ (purgeReached s).settings = s.settings
      ∧ (purgeReached s).store = s.store ∧ (purgeReached s).defaulted = s.defaulted
      ∧ (purgeReached s).saving = s.saving ∧ (purgeReached s).slowPeriod = s.slowPeriod
      ∧ (purgeReached s).account = s.account ∧ (purgeReached s).drive = s.drive
      ∧ (purgeReached s).tanks = s.tanks ∧ (purgeReached s).motion = s.motion ∧ (purgeReached s).light = s.light
      ∧ (purgeReached s).runner = s.runner ∧ (purgeReached s).links = s.links
      ∧ (purgeReached s).restarting = s.restarting ∧ (purgeReached s).sleep = s.sleep
      ∧ (purgeReached s).pending = s.pending := by
  generalize h : (purgeReached s) = t
  unfold purgeReached at h
  try dsimp only at h
  (repeat' split at h) <;> (subst h; simp)

@[simp] theorem clearLockout_frame (s : State) :
    (clearLockout s).2.powered = s.powered ∧ (clearLockout s).2.settings = s.settings
      ∧ (clearLockout s).2.store = s.store ∧ (clearLockout s).2.defaulted = s.defaulted
      ∧ (clearLockout s).2.saving = s.saving ∧ (clearLockout s).2.slowPeriod = s.slowPeriod
      ∧ (clearLockout s).2.account = s.account ∧ (clearLockout s).2.drive = s.drive
      ∧ (clearLockout s).2.tanks = s.tanks ∧ (clearLockout s).2.motion = s.motion
      ∧ (clearLockout s).2.light = s.light ∧ (clearLockout s).2.runner = s.runner
      ∧ (clearLockout s).2.links = s.links ∧ (clearLockout s).2.restarting = s.restarting
      ∧ (clearLockout s).2.sleep = s.sleep ∧ (clearLockout s).2.pending = s.pending := by
  generalize h : (clearLockout s) = t
  unfold clearLockout at h
  try dsimp only at h
  (repeat' split at h) <;> (subst h; simp)

@[simp] theorem takeCabin_frame (p : Nat) (r : Reading) (s : State) :
    (takeCabin p r s).powered = s.powered ∧ (takeCabin p r s).settings = s.settings
      ∧ (takeCabin p r s).store = s.store ∧ (takeCabin p r s).defaulted = s.defaulted
      ∧ (takeCabin p r s).saving = s.saving ∧ (takeCabin p r s).slowPeriod = s.slowPeriod
      ∧ (takeCabin p r s).account = s.account ∧ (takeCabin p r s).drive = s.drive
      ∧ (takeCabin p r s).adm = s.adm ∧ (takeCabin p r s).tanks = s.tanks ∧ (takeCabin p r s).water = s.water
      ∧ (takeCabin p r s).frost = s.frost ∧ (takeCabin p r s).motion = s.motion
      ∧ (takeCabin p r s).light = s.light ∧ (takeCabin p r s).runner = s.runner
      ∧ (takeCabin p r s).ports = s.ports ∧ (takeCabin p r s).restarting = s.restarting
      ∧ (takeCabin p r s).sleep = s.sleep ∧ (takeCabin p r s).pending = s.pending
      ∧ (takeCabin p r s).links = s.links := by
  generalize h : (takeCabin p r s) = t
  unfold takeCabin at h
  try dsimp only at h
  (repeat' split at h) <;> (subst h; simp)

@[simp] theorem setDemand_frame (d : Demand) (s : State) :
    (setDemand d s).powered = s.powered ∧ (setDemand d s).settings = s.settings
      ∧ (setDemand d s).store = s.store ∧ (setDemand d s).defaulted = s.defaulted
      ∧ (setDemand d s).saving = s.saving ∧ (setDemand d s).slowPeriod = s.slowPeriod
      ∧ (setDemand d s).account = s.account ∧ (setDemand d s).drive = s.drive ∧ (setDemand d s).tanks = s.tanks
      ∧ (setDemand d s).water = s.water ∧ (setDemand d s).frost = s.frost ∧ (setDemand d s).motion = s.motion
      ∧ (setDemand d s).light = s.light ∧ (setDemand d s).runner = s.runner ∧ (setDemand d s).ports = s.ports
      ∧ (setDemand d s).restarting = s.restarting ∧ (setDemand d s).sleep = s.sleep
      ∧ (setDemand d s).pending = s.pending ∧ (setDemand d s).links = s.links := by
  generalize h : (setDemand d s) = t
  unfold setDemand at h
  try dsimp only at h
  (repeat' split at h) <;> (subst h; simp)

@[simp] theorem cabinReached_frame (s : State) :
    (cabinReached s).powered = s.powered ∧ (cabinReached s).settings = s.settings
      ∧ (cabinReached s).store = s.store ∧ (cabinReached s).defaulted = s.defaulted
      ∧ (cabinReached s).saving = s.saving ∧ (cabinReached s).slowPeriod = s.slowPeriod
      ∧ (cabinReached s).account = s.account ∧ (cabinReached s).drive = s.drive
      ∧ (cabinReached s).tanks = s.tanks ∧ (cabinReached s).water = s.water ∧ (cabinReached s).frost = s.frost
      ∧ (cabinReached s).motion = s.motion ∧ (cabinReached s).light = s.light
      ∧ (cabinReached s).runner = s.runner ∧ (cabinReached s).ports = s.ports
      ∧ (cabinReached s).restarting = s.restarting ∧ (cabinReached s).sleep = s.sleep
      ∧ (cabinReached s).pending = s.pending ∧ (cabinReached s).links = s.links := by
  generalize h : (cabinReached s) = t
  unfold cabinReached at h
  try dsimp only at h
  (repeat' split at h) <;> (subst h; simp)

@[simp] theorem thermostat_frame (s : State) :
    (thermostat s).powered = s.powered ∧ (thermostat s).settings = s.settings ∧ (thermostat s).store = s.store
      ∧ (thermostat s).defaulted = s.defaulted ∧ (thermostat s).saving = s.saving
      ∧ (thermostat s).slowPeriod = s.slowPeriod ∧ (thermostat s).account = s.account
      ∧ (thermostat s).drive = s.drive ∧ (thermostat s).tanks = s.tanks ∧ (thermostat s).motion = s.motion
      ∧ (thermostat s).light = s.light ∧ (thermostat s).runner = s.runner ∧ (thermostat s).links = s.links
      ∧ (thermostat s).restarting = s.restarting ∧ (thermostat s).sleep = s.sleep
      ∧ (thermostat s).pending = s.pending := by
  generalize h : (thermostat s) = t
  unfold thermostat at h
  try dsimp only at h
  (repeat' split at h) <;> (subst h; simp)

@[simp] theorem watchFlame_frame (r : Reading) (s : State) :
    (watchFlame r s).powered = s.powered ∧ (watchFlame r s).settings = s.settings
      ∧ (watchFlame r s).store = s.store ∧ (watchFlame r s).defaulted = s.defaulted
      ∧ (watchFlame r s).saving = s.saving ∧ (watchFlame r s).slowPeriod = s.slowPeriod
      ∧ (watchFlame r s).account = s.account ∧ (watchFlame r s).drive = s.drive ∧ (watchFlame r s).adm = s.adm
      ∧ (watchFlame r s).tanks = s.tanks ∧ (watchFlame r s).water = s.water ∧ (watchFlame r s).frost = s.frost
      ∧ (watchFlame r s).motion = s.motion ∧ (watchFlame r s).light = s.light
      ∧ (watchFlame r s).runner = s.runner ∧ (watchFlame r s).ports = s.ports
      ∧ (watchFlame r s).restarting = s.restarting ∧ (watchFlame r s).sleep = s.sleep
      ∧ (watchFlame r s).pending = s.pending ∧ (watchFlame r s).links = s.links := by
  generalize h : (watchFlame r s) = t
  unfold watchFlame at h
  try dsimp only at h
  (repeat' split at h) <;> (subst h; simp)

@[simp] theorem flameCatches_frame (s : State) :
    (flameCatches s).powered = s.powered ∧ (flameCatches s).settings = s.settings
      ∧ (flameCatches s).store = s.store ∧ (flameCatches s).defaulted = s.defaulted
      ∧ (flameCatches s).saving = s.saving ∧ (flameCatches s).slowPeriod = s.slowPeriod
      ∧ (flameCatches s).account = s.account ∧ (flameCatches s).drive = s.drive
      ∧ (flameCatches s).tanks = s.tanks ∧ (flameCatches s).motion = s.motion ∧ (flameCatches s).light = s.light
      ∧ (flameCatches s).runner = s.runner ∧ (flameCatches s).links = s.links
      ∧ (flameCatches s).restarting = s.restarting ∧ (flameCatches s).sleep = s.sleep
      ∧ (flameCatches s).pending = s.pending := by
  generalize h : (flameCatches s) = t
  unfold flameCatches at h
  try dsimp only at h
  (repeat' split at h) <;> (subst h; simp)

@[simp] theorem heaterSample_frame (x : Sample) (s : State) :
    (heaterSample x s).powered = s.powered ∧ (heaterSample x s).settings = s.settings
      ∧ (heaterSample x s).store = s.store ∧ (heaterSample x s).defaulted = s.defaulted
      ∧ (heaterSample x s).saving = s.saving ∧ (heaterSample x s).slowPeriod = s.slowPeriod
      ∧ (heaterSample x s).account = s.account ∧ (heaterSample x s).drive = s.drive
      ∧ (heaterSample x s).tanks = s.tanks ∧ (heaterSample x s).motion = s.motion
      ∧ (heaterSample x s).light = s.light ∧ (heaterSample x s).runner = s.runner
      ∧ (heaterSample x s).links = s.links ∧ (heaterSample x s).restarting = s.restarting
      ∧ (heaterSample x s).sleep = s.sleep ∧ (heaterSample x s).pending = s.pending := by
  generalize h : (heaterSample x s) = t
  unfold heaterSample at h
  try dsimp only at h
  (repeat' split at h) <;> (subst h; simp)

@[simp] theorem setKeep_frame (on : Bool) (s : State) :
    (setKeep on s).powered = s.powered ∧ (setKeep on s).settings = s.settings ∧ (setKeep on s).store = s.store
      ∧ (setKeep on s).defaulted = s.defaulted ∧ (setKeep on s).saving = s.saving
      ∧ (setKeep on s).slowPeriod = s.slowPeriod ∧ (setKeep on s).account = s.account
      ∧ (setKeep on s).drive = s.drive ∧ (setKeep on s).tanks = s.tanks ∧ (setKeep on s).motion = s.motion
      ∧ (setKeep on s).light = s.light ∧ (setKeep on s).runner = s.runner ∧ (setKeep on s).links = s.links
      ∧ (setKeep on s).restarting = s.restarting ∧ (setKeep on s).sleep = s.sleep
      ∧ (setKeep on s).pending = s.pending := by
  generalize h : (setKeep on s) = t
  unfold setKeep at h
  try dsimp only at h
  (repeat' split at h) <;> (subst h; simp)

@[simp] theorem judgeKeep_frame (s : State) :
    (judgeKeep s).powered = s.powered ∧ (judgeKeep s).settings = s.settings ∧ (judgeKeep s).store = s.store
      ∧ (judgeKeep s).defaulted = s.defaulted ∧ (judgeKeep s).saving = s.saving
      ∧ (judgeKeep s).slowPeriod = s.slowPeriod ∧ (judgeKeep s).account = s.account
      ∧ (judgeKeep s).drive = s.drive ∧ (judgeKeep s).tanks = s.tanks ∧ (judgeKeep s).motion = s.motion
      ∧ (judgeKeep s).light = s.light ∧ (judgeKeep s).runner = s.runner ∧ (judgeKeep s).links = s.links
      ∧ (judgeKeep s).restarting = s.restarting ∧ (judgeKeep s).sleep = s.sleep
      ∧ (judgeKeep s).pending = s.pending := by
  generalize h : (judgeKeep s) = t
  unfold judgeKeep at h
  try dsimp only at h
  (repeat' split at h) <;> (subst h; simp)

@[simp] theorem frostSample_frame (x : Sample) (s : State) :
    (frostSample x s).powered = s.powered ∧ (frostSample x s).settings = s.settings
      ∧ (frostSample x s).store = s.store ∧ (frostSample x s).defaulted = s.defaulted
      ∧ (frostSample x s).saving = s.saving ∧ (frostSample x s).slowPeriod = s.slowPeriod
      ∧ (frostSample x s).account = s.account ∧ (frostSample x s).drive = s.drive
      ∧ (frostSample x s).tanks = s.tanks ∧ (frostSample x s).motion = s.motion
      ∧ (frostSample x s).runner = s.runner ∧ (frostSample x s).links = s.links
      ∧ (frostSample x s).restarting = s.restarting ∧ (frostSample x s).pending = s.pending := by
  generalize h : (frostSample x s) = t
  unfold frostSample at h
  try dsimp only at h
  (repeat' split at h) <;> (subst h; simp)

@[simp] theorem waterHoldReached_frame (s : State) :
    (waterHoldReached s).powered = s.powered ∧ (waterHoldReached s).settings = s.settings
      ∧ (waterHoldReached s).store = s.store ∧ (waterHoldReached s).defaulted = s.defaulted
      ∧ (waterHoldReached s).saving = s.saving ∧ (waterHoldReached s).slowPeriod = s.slowPeriod
      ∧ (waterHoldReached s).account = s.account ∧ (waterHoldReached s).drive = s.drive
      ∧ (waterHoldReached s).tanks = s.tanks ∧ (waterHoldReached s).heater = s.heater
      ∧ (waterHoldReached s).motion = s.motion ∧ (waterHoldReached s).light = s.light
      ∧ (waterHoldReached s).runner = s.runner ∧ (waterHoldReached s).links = s.links
      ∧ (waterHoldReached s).restarting = s.restarting ∧ (waterHoldReached s).sleep = s.sleep
      ∧ (waterHoldReached s).pending = s.pending := by
  generalize h : (waterHoldReached s) = t
  unfold waterHoldReached at h
  try dsimp only at h
  (repeat' split at h) <;> (subst h; simp)

@[simp] theorem setFrostGuard_frame (on : Bool) (s : State) :
    (setFrostGuard on s).powered = s.powered ∧ (setFrostGuard on s).store = s.store
      ∧ (setFrostGuard on s).defaulted = s.defaulted ∧ (setFrostGuard on s).saving = s.saving
      ∧ (setFrostGuard on s).slowPeriod = s.slowPeriod ∧ (setFrostGuard on s).account = s.account
      ∧ (setFrostGuard on s).drive = s.drive ∧ (setFrostGuard on s).tanks = s.tanks
      ∧ (setFrostGuard on s).motion = s.motion ∧ (setFrostGuard on s).light = s.light
      ∧ (setFrostGuard on s).runner = s.runner ∧ (setFrostGuard on s).links = s.links
      ∧ (setFrostGuard on s).restarting = s.restarting ∧ (setFrostGuard on s).sleep = s.sleep
      ∧ (setFrostGuard on s).pending = s.pending := by
  generalize h : (setFrostGuard on s) = t
  unfold setFrostGuard at h
  try dsimp only at h
  (repeat' split at h) <;> (subst h; simp)

end Sys2Proof.Machine
end

