-- ==== Sys2Proof/Laws/FrameMotion.lean ====
section
/-! SUPPORT. What the operations of motion, lighting, drive side and routines leave as it was, as Laws/Frame.lean has it for the
other blocks; and what the handing of an event's changes leaves. -/

namespace Sys2Proof.Machine

/-! ### Motion -/

@[simp] theorem handEnd_frame (was : Option Requester) (r : MotionResult) (s : State) :
    (handEnd was r s).powered = s.powered ∧ (handEnd was r s).settings = s.settings
      ∧ (handEnd was r s).store = s.store ∧ (handEnd was r s).defaulted = s.defaulted
      ∧ (handEnd was r s).saving = s.saving ∧ (handEnd was r s).slowPeriod = s.slowPeriod
      ∧ (handEnd was r s).account = s.account ∧ (handEnd was r s).drive = s.drive
      ∧ (handEnd was r s).adm = s.adm ∧ (handEnd was r s).tanks = s.tanks ∧ (handEnd was r s).water = s.water
      ∧ (handEnd was r s).heater = s.heater ∧ (handEnd was r s).frost = s.frost
      ∧ (handEnd was r s).motion = s.motion ∧ (handEnd was r s).light = s.light
      ∧ (handEnd was r s).ports = s.ports ∧ (handEnd was r s).restarting = s.restarting
      ∧ (handEnd was r s).sleep = s.sleep ∧ (handEnd was r s).pending = s.pending
      ∧ (handEnd was r s).links = s.links := by
  generalize h : (handEnd was r s) = t
  unfold handEnd at h
  try dsimp only at h
  (repeat' split at h) <;> (subst h; simp)

@[simp] theorem restRecord_frame (a : Actuator) (act : Activity) (k : FaultKind) (res : MotionResult) (s : State) :
    (restRecord a act k res s).powered = s.powered ∧ (restRecord a act k res s).settings = s.settings
      ∧ (restRecord a act k res s).store = s.store ∧ (restRecord a act k res s).defaulted = s.defaulted
      ∧ (restRecord a act k res s).saving = s.saving ∧ (restRecord a act k res s).slowPeriod = s.slowPeriod
      ∧ (restRecord a act k res s).account = s.account ∧ (restRecord a act k res s).drive = s.drive
      ∧ (restRecord a act k res s).tanks = s.tanks ∧ (restRecord a act k res s).water = s.water
      ∧ (restRecord a act k res s).heater = s.heater ∧ (restRecord a act k res s).frost = s.frost
      ∧ (restRecord a act k res s).light = s.light ∧ (restRecord a act k res s).links = s.links
      ∧ (restRecord a act k res s).restarting = s.restarting ∧ (restRecord a act k res s).sleep = s.sleep
      ∧ (restRecord a act k res s).pending = s.pending := by
  generalize h : (restRecord a act k res s) = t
  unfold restRecord at h
  try dsimp only at h
  (repeat' split at h) <;> (subst h; simp)

@[simp] theorem runMotor_frame (a : Actuator) (s : State) :
    (runMotor a s).powered = s.powered ∧ (runMotor a s).settings = s.settings ∧ (runMotor a s).store = s.store
      ∧ (runMotor a s).defaulted = s.defaulted ∧ (runMotor a s).saving = s.saving
      ∧ (runMotor a s).slowPeriod = s.slowPeriod ∧ (runMotor a s).account = s.account
      ∧ (runMotor a s).drive = s.drive ∧ (runMotor a s).adm = s.adm ∧ (runMotor a s).tanks = s.tanks
      ∧ (runMotor a s).water = s.water ∧ (runMotor a s).heater = s.heater ∧ (runMotor a s).frost = s.frost
      ∧ (runMotor a s).light = s.light ∧ (runMotor a s).runner = s.runner ∧ (runMotor a s).ports = s.ports
      ∧ (runMotor a s).restarting = s.restarting ∧ (runMotor a s).sleep = s.sleep
      ∧ (runMotor a s).pending = s.pending ∧ (runMotor a s).links = s.links := by
  generalize h : (runMotor a s) = t
  unfold runMotor at h
  try dsimp only at h
  (repeat' split at h) <;> (subst h; simp)

/-- Taking the driver, with what follows a completion at once. -/
theorem holdDriver_frame (a : Actuator) (last : State → State) (s : State)
    (hl : ∀ s : State, (last s).powered = s.powered ∧ (last s).settings = s.settings ∧ (last s).store = s.store
      ∧ (last s).defaulted = s.defaulted ∧ (last s).saving = s.saving ∧ (last s).slowPeriod = s.slowPeriod
      ∧ (last s).account = s.account ∧ (last s).drive = s.drive ∧ (last s).tanks = s.tanks
      ∧ (last s).water = s.water ∧ (last s).heater = s.heater ∧ (last s).frost = s.frost
      ∧ (last s).light = s.light ∧ (last s).links = s.links ∧ (last s).restarting = s.restarting
      ∧ (last s).sleep = s.sleep ∧ (last s).pending = s.pending) :
    (holdDriver a last s).powered = s.powered ∧ (holdDriver a last s).settings = s.settings
      ∧ (holdDriver a last s).store = s.store ∧ (holdDriver a last s).defaulted = s.defaulted
      ∧ (holdDriver a last s).saving = s.saving ∧ (holdDriver a last s).slowPeriod = s.slowPeriod
      ∧ (holdDriver a last s).account = s.account ∧ (holdDriver a last s).drive = s.drive
      ∧ (holdDriver a last s).tanks = s.tanks ∧ (holdDriver a last s).water = s.water
      ∧ (holdDriver a last s).heater = s.heater ∧ (holdDriver a last s).frost = s.frost
      ∧ (holdDriver a last s).light = s.light ∧ (holdDriver a last s).links = s.links
      ∧ (holdDriver a last s).restarting = s.restarting ∧ (holdDriver a last s).sleep = s.sleep
      ∧ (holdDriver a last s).pending = s.pending := by
  generalize h : (holdDriver a last s) = t
  unfold holdDriver at h
  try dsimp only at h
  (repeat' split at h) <;> (subst h; simp [hl])

@[simp] theorem holdDriver_id_frame (a : Actuator) (s : State) :
    (holdDriver a id s).powered = s.powered ∧ (holdDriver a id s).settings = s.settings
      ∧ (holdDriver a id s).store = s.store ∧ (holdDriver a id s).defaulted = s.defaulted
      ∧ (holdDriver a id s).saving = s.saving ∧ (holdDriver a id s).slowPeriod = s.slowPeriod
      ∧ (holdDriver a id s).account = s.account ∧ (holdDriver a id s).drive = s.drive
      ∧ (holdDriver a id s).tanks = s.tanks ∧ (holdDriver a id s).water = s.water
      ∧ (holdDriver a id s).heater = s.heater ∧ (holdDriver a id s).frost = s.frost
      ∧ (holdDriver a id s).light = s.light ∧ (holdDriver a id s).links = s.links
      ∧ (holdDriver a id s).restarting = s.restarting ∧ (holdDriver a id s).sleep = s.sleep
      ∧ (holdDriver a id s).pending = s.pending :=
  holdDriver_frame a id s (by simp)

@[simp] theorem passDriver_frame (s : State) :
    (passDriver s).powered = s.powered ∧ (passDriver s).settings = s.settings ∧ (passDriver s).store = s.store
      ∧ (passDriver s).defaulted = s.defaulted ∧ (passDriver s).saving = s.saving
      ∧ (passDriver s).slowPeriod = s.slowPeriod ∧ (passDriver s).account = s.account
      ∧ (passDriver s).drive = s.drive ∧ (passDriver s).tanks = s.tanks ∧ (passDriver s).water = s.water
      ∧ (passDriver s).heater = s.heater ∧ (passDriver s).frost = s.frost ∧ (passDriver s).light = s.light
      ∧ (passDriver s).links = s.links ∧ (passDriver s).restarting = s.restarting
      ∧ (passDriver s).sleep = s.sleep ∧ (passDriver s).pending = s.pending := by
  generalize h : (passDriver s) = t
  unfold passDriver at h
  try dsimp only at h
  (repeat' split at h) <;> (subst h; simp)

@[simp] theorem endMotion_frame (a : Actuator) (act : Activity) (k : FaultKind) (res : MotionResult) (s : State) :
    (endMotion a act k res s).powered = s.powered ∧ (endMotion a act k res s).settings = s.settings
      ∧ (endMotion a act k res s).store = s.store ∧ (endMotion a act k res s).defaulted = s.defaulted
      ∧ (endMotion a act k res s).saving = s.saving ∧ (endMotion a act k res s).slowPeriod = s.slowPeriod
      ∧ (endMotion a act k res s).account = s.account ∧ (endMotion a act k res s).drive = s.drive
      ∧ (endMotion a act k res s).tanks = s.tanks ∧ (endMotion a act k res s).water = s.water
      ∧ (endMotion a act k res s).heater = s.heater ∧ (endMotion a act k res s).frost = s.frost
      ∧ (endMotion a act k res s).light = s.light ∧ (endMotion a act k res s).links = s.links
      ∧ (endMotion a act k res s).restarting = s.restarting ∧ (endMotion a act k res s).sleep = s.sleep
      ∧ (endMotion a act k res s).pending = s.pending := by
  generalize h : (endMotion a act k res s) = t
  unfold endMotion at h
  try dsimp only at h
  (repeat' split at h) <;> (subst h; simp)

@[simp] theorem faultMotion_frame (a : Actuator) (k : FaultKind) (res : MotionResult) (s : State) :
    (faultMotion a k res s).powered = s.powered ∧ (faultMotion a k res s).settings = s.settings
      ∧ (faultMotion a k res s).store = s.store ∧ (faultMotion a k res s).defaulted = s.defaulted
      ∧ (faultMotion a k res s).saving = s.saving ∧ (faultMotion a k res s).slowPeriod = s.slowPeriod
      ∧ (faultMotion a k res s).account = s.account ∧ (faultMotion a k res s).drive = s.drive
      ∧ (faultMotion a k res s).tanks = s.tanks ∧ (faultMotion a k res s).water = s.water
      ∧ (faultMotion a k res s).heater = s.heater ∧ (faultMotion a k res s).frost = s.frost
      ∧ (faultMotion a k res s).light = s.light ∧ (faultMotion a k res s).links = s.links
      ∧ (faultMotion a k res s).restarting = s.restarting ∧ (faultMotion a k res s).sleep = s.sleep
      ∧ (faultMotion a k res s).pending = s.pending := by
  generalize h : (faultMotion a k res s) = t
  unfold faultMotion at h
  try dsimp only at h
  (repeat' split at h) <;> (subst h; simp)

@[simp] theorem stopRecord_frame (a : Actuator) (res : MotionResult) (s : State) :
    (stopRecord a res s).powered = s.powered ∧ (stopRecord a res s).settings = s.settings
      ∧ (stopRecord a res s).store = s.store ∧ (stopRecord a res s).defaulted = s.defaulted
      ∧ (stopRecord a res s).saving = s.saving ∧ (stopRecord a res s).slowPeriod = s.slowPeriod
      ∧ (stopRecord a res s).account = s.account ∧ (stopRecord a res s).drive = s.drive
      ∧ (stopRecord a res s).tanks = s.tanks ∧ (stopRecord a res s).water = s.water
      ∧ (stopRecord a res s).heater = s.heater ∧ (stopRecord a res s).frost = s.frost
      ∧ (stopRecord a res s).light = s.light ∧ (stopRecord a res s).links = s.links
      ∧ (stopRecord a res s).restarting = s.restarting ∧ (stopRecord a res s).sleep = s.sleep
      ∧ (stopRecord a res s).pending = s.pending := by
  generalize h : (stopRecord a res s) = t
  unfold stopRecord at h
  try dsimp only at h
  (repeat' split at h) <;> (subst h; simp)

@[simp] theorem stopBoth_frame (res : MotionResult) (s : State) :
    (stopBoth res s).powered = s.powered ∧ (stopBoth res s).settings = s.settings
      ∧ (stopBoth res s).store = s.store ∧ (stopBoth res s).defaulted = s.defaulted
      ∧ (stopBoth res s).saving = s.saving ∧ (stopBoth res s).slowPeriod = s.slowPeriod
      ∧ (stopBoth res s).account = s.account ∧ (stopBoth res s).drive = s.drive
      ∧ (stopBoth res s).tanks = s.tanks ∧ (stopBoth res s).water = s.water ∧ (stopBoth res s).heater = s.heater
      ∧ (stopBoth res s).frost = s.frost ∧ (stopBoth res s).light = s.light ∧ (stopBoth res s).links = s.links
      ∧ (stopBoth res s).restarting = s.restarting ∧ (stopBoth res s).sleep = s.sleep
      ∧ (stopBoth res s).pending = s.pending := by
  generalize h : (stopBoth res s) = t
  unfold stopBoth at h
  try dsimp only at h
  (repeat' split at h) <;> (subst h; simp)

@[simp] theorem startMotion_frame (a : Actuator) (d : Direction) (q : Requester) (s : State) :
    (startMotion a d q s).powered = s.powered ∧ (startMotion a d q s).settings = s.settings
      ∧ (startMotion a d q s).store = s.store ∧ (startMotion a d q s).defaulted = s.defaulted
      ∧ (startMotion a d q s).saving = s.saving ∧ (startMotion a d q s).slowPeriod = s.slowPeriod
      ∧ (startMotion a d q s).account = s.account ∧ (startMotion a d q s).drive = s.drive
      ∧ (startMotion a d q s).tanks = s.tanks ∧ (startMotion a d q s).water = s.water
      ∧ (startMotion a d q s).heater = s.heater ∧ (startMotion a d q s).frost = s.frost
      ∧ (startMotion a d q s).light = s.light ∧ (startMotion a d q s).links = s.links
      ∧ (startMotion a d q s).restarting = s.restarting ∧ (startMotion a d q s).sleep = s.sleep
      ∧ (startMotion a d q s).pending = s.pending := by
  generalize h : (startMotion a d q s) = t
  unfold startMotion at h
  try dsimp only at h
  (repeat' split at h) <;> (subst h; simp [holdDriver_frame])

@[simp] theorem replaceRequester_frame (a : Actuator) (q : Requester) (res : MotionResult) (s : State) :
    (replaceRequester a q res s).powered = s.powered ∧ (replaceRequester a q res s).settings = s.settings
      ∧ (replaceRequester a q res s).store = s.store ∧ (replaceRequester a q res s).defaulted = s.defaulted
      ∧ (replaceRequester a q res s).saving = s.saving ∧ (replaceRequester a q res s).slowPeriod = s.slowPeriod
      ∧ (replaceRequester a q res s).account = s.account ∧ (replaceRequester a q res s).drive = s.drive
      ∧ (replaceRequester a q res s).adm = s.adm ∧ (replaceRequester a q res s).tanks = s.tanks
      ∧ (replaceRequester a q res s).water = s.water ∧ (replaceRequester a q res s).heater = s.heater
      ∧ (replaceRequester a q res s).frost = s.frost ∧ (replaceRequester a q res s).light = s.light
      ∧ (replaceRequester a q res s).ports = s.ports ∧ (replaceRequester a q res s).restarting = s.restarting
      ∧ (replaceRequester a q res s).sleep = s.sleep ∧ (replaceRequester a q res s).pending = s.pending
      ∧ (replaceRequester a q res s).links = s.links := by
  generalize h : (replaceRequester a q res s) = t
  unfold replaceRequester at h
  try dsimp only at h
  (repeat' split at h) <;> (subst h; simp)

/-- A change of direction, with what follows where it does not complete at once. -/
theorem turnHolder_frame (a : Actuator) (d : Direction) (go : State → State) (s : State)
    (hl : ∀ s : State, (go s).powered = s.powered ∧ (go s).settings = s.settings ∧ (go s).store = s.store
      ∧ (go s).defaulted = s.defaulted ∧ (go s).saving = s.saving ∧ (go s).slowPeriod = s.slowPeriod
      ∧ (go s).account = s.account ∧ (go s).drive = s.drive ∧ (go s).tanks = s.tanks ∧ (go s).water = s.water
      ∧ (go s).heater = s.heater ∧ (go s).frost = s.frost ∧ (go s).light = s.light ∧ (go s).links = s.links
      ∧ (go s).restarting = s.restarting ∧ (go s).sleep = s.sleep ∧ (go s).pending = s.pending) :
    (turnHolder a d go s).powered = s.powered ∧ (turnHolder a d go s).settings = s.settings
      ∧ (turnHolder a d go s).store = s.store ∧ (turnHolder a d go s).defaulted = s.defaulted
      ∧ (turnHolder a d go s).saving = s.saving ∧ (turnHolder a d go s).slowPeriod = s.slowPeriod
      ∧ (turnHolder a d go s).account = s.account ∧ (turnHolder a d go s).drive = s.drive
      ∧ (turnHolder a d go s).tanks = s.tanks ∧ (turnHolder a d go s).water = s.water
      ∧ (turnHolder a d go s).heater = s.heater ∧ (turnHolder a d go s).frost = s.frost
      ∧ (turnHolder a d go s).light = s.light ∧ (turnHolder a d go s).links = s.links
      ∧ (turnHolder a d go s).restarting = s.restarting ∧ (turnHolder a d go s).sleep = s.sleep
      ∧ (turnHolder a d go s).pending = s.pending := by
  generalize h : (turnHolder a d go s) = t
  unfold turnHolder at h
  try dsimp only at h
  (repeat' split at h) <;> (subst h; simp [hl])

@[simp] theorem reverseMotion_frame (a : Actuator) (d : Direction) (s : State) :
    (reverseMotion a d s).powered = s.powered ∧ (reverseMotion a d s).settings = s.settings
      ∧ (reverseMotion a d s).store = s.store ∧ (reverseMotion a d s).defaulted = s.defaulted
      ∧ (reverseMotion a d s).saving = s.saving ∧ (reverseMotion a d s).slowPeriod = s.slowPeriod
      ∧ (reverseMotion a d s).account = s.account ∧ (reverseMotion a d s).drive = s.drive
      ∧ (reverseMotion a d s).tanks = s.tanks ∧ (reverseMotion a d s).water = s.water
      ∧ (reverseMotion a d s).heater = s.heater ∧ (reverseMotion a d s).frost = s.frost
      ∧ (reverseMotion a d s).light = s.light ∧ (reverseMotion a d s).links = s.links
      ∧ (reverseMotion a d s).restarting = s.restarting ∧ (reverseMotion a d s).sleep = s.sleep
      ∧ (reverseMotion a d s).pending = s.pending := by
  simp [reverseMotion, turnHolder_frame]

@[simp] theorem turnWaiting_frame (a : Actuator) (s : State) :
    (turnWaiting a s).powered = s.powered ∧ (turnWaiting a s).settings = s.settings
      ∧ (turnWaiting a s).store = s.store ∧ (turnWaiting a s).defaulted = s.defaulted
      ∧ (turnWaiting a s).saving = s.saving ∧ (turnWaiting a s).slowPeriod = s.slowPeriod
      ∧ (turnWaiting a s).account = s.account ∧ (turnWaiting a s).drive = s.drive
      ∧ (turnWaiting a s).tanks = s.tanks ∧ (turnWaiting a s).water = s.water
      ∧ (turnWaiting a s).heater = s.heater ∧ (turnWaiting a s).frost = s.frost
      ∧ (turnWaiting a s).light = s.light ∧ (turnWaiting a s).links = s.links
      ∧ (turnWaiting a s).restarting = s.restarting ∧ (turnWaiting a s).sleep = s.sleep
      ∧ (turnWaiting a s).pending = s.pending := by
  simp [turnWaiting, turnHolder_frame]

@[simp] theorem moveInFlight_frame (a : Actuator) (d : Direction) (q : Requester) (s : State) :
    (moveInFlight a d q s).2.powered = s.powered ∧ (moveInFlight a d q s).2.settings = s.settings
      ∧ (moveInFlight a d q s).2.store = s.store ∧ (moveInFlight a d q s).2.defaulted = s.defaulted
      ∧ (moveInFlight a d q s).2.saving = s.saving ∧ (moveInFlight a d q s).2.slowPeriod = s.slowPeriod
      ∧ (moveInFlight a d q s).2.account = s.account ∧ (moveInFlight a d q s).2.drive = s.drive
      ∧ (moveInFlight a d q s).2.tanks = s.tanks ∧ (moveInFlight a d q s).2.water = s.water
      ∧ (moveInFlight a d q s).2.heater = s.heater ∧ (moveInFlight a d q s).2.frost = s.frost
      ∧ (moveInFlight a d q s).2.light = s.light ∧ (moveInFlight a d q s).2.links = s.links
      ∧ (moveInFlight a d q s).2.restarting = s.restarting ∧ (moveInFlight a d q s).2.sleep = s.sleep
      ∧ (moveInFlight a d q s).2.pending = s.pending := by
  generalize h : (moveInFlight a d q s) = t
  unfold moveInFlight at h
  try dsimp only at h
  (repeat' split at h) <;> (subst h; simp)

@[simp] theorem moveTaken_frame (a : Actuator) (d : Direction) (remote : Bool) (q : Requester) (s : State) :
    (moveTaken a d remote q s).2.powered = s.powered ∧ (moveTaken a d remote q s).2.settings = s.settings
      ∧ (moveTaken a d remote q s).2.store = s.store ∧ (moveTaken a d remote q s).2.defaulted = s.defaulted
      ∧ (moveTaken a d remote q s).2.saving = s.saving ∧ (moveTaken a d remote q s).2.slowPeriod = s.slowPeriod
      ∧ (moveTaken a d remote q s).2.account = s.account ∧ (moveTaken a d remote q s).2.drive = s.drive
      ∧ (moveTaken a d remote q s).2.tanks = s.tanks ∧ (moveTaken a d remote q s).2.water = s.water
      ∧ (moveTaken a d remote q s).2.heater = s.heater ∧ (moveTaken a d remote q s).2.frost = s.frost
      ∧ (moveTaken a d remote q s).2.light = s.light ∧ (moveTaken a d remote q s).2.links = s.links
      ∧ (moveTaken a d remote q s).2.restarting = s.restarting ∧ (moveTaken a d remote q s).2.sleep = s.sleep
      ∧ (moveTaken a d remote q s).2.pending = s.pending := by
  generalize h : (moveTaken a d remote q s) = t
  unfold moveTaken at h
  try dsimp only at h
  (repeat' split at h) <;> (subst h; simp)

@[simp] theorem moveRequest_frame (act dir : Nat) (remote : Bool) (q : Requester) (s : State) :
    (moveRequest act dir remote q s).2.powered = s.powered
      ∧ (moveRequest act dir remote q s).2.settings = s.settings
      ∧ (moveRequest act dir remote q s).2.store = s.store
      ∧ (moveRequest act dir remote q s).2.defaulted = s.defaulted
      ∧ (moveRequest act dir remote q s).2.saving = s.saving
      ∧ (moveRequest act dir remote q s).2.slowPeriod = s.slowPeriod
      ∧ (moveRequest act dir remote q s).2.account = s.account
      ∧ (moveRequest act dir remote q s).2.drive = s.drive ∧ (moveRequest act dir remote q s).2.tanks = s.tanks
      ∧ (moveRequest act dir remote q s).2.water = s.water
      ∧ (moveRequest act dir remote q s).2.heater = s.heater
      ∧ (moveRequest act dir remote q s).2.frost = s.frost ∧ (moveRequest act dir remote q s).2.light = s.light
      ∧ (moveRequest act dir remote q s).2.links = s.links
      ∧ (moveRequest act dir remote q s).2.restarting = s.restarting
      ∧ (moveRequest act dir remote q s).2.sleep = s.sleep
      ∧ (moveRequest act dir remote q s).2.pending = s.pending := by
  generalize h : (moveRequest act dir remote q s) = t
  unfold moveRequest at h
  try dsimp only at h
  (repeat' split at h) <;> (subst h; simp)

@[simp] theorem stopRequest_frame (act : Nat) (s : State) :
    (stopRequest act s).2.powered = s.powered ∧ (stopRequest act s).2.settings = s.settings
      ∧ (stopRequest act s).2.store = s.store ∧ (stopRequest act s).2.defaulted = s.defaulted
      ∧ (stopRequest act s).2.saving = s.saving ∧ (stopRequest act s).2.slowPeriod = s.slowPeriod
      ∧ (stopRequest act s).2.account = s.account ∧ (stopRequest act s).2.drive = s.drive
      ∧ (stopRequest act s).2.tanks = s.tanks ∧ (stopRequest act s).2.water = s.water
      ∧ (stopRequest act s).2.heater = s.heater ∧ (stopRequest act s).2.frost = s.frost
      ∧ (stopRequest act s).2.light = s.light ∧ (stopRequest act s).2.links = s.links
      ∧ (stopRequest act s).2.restarting = s.restarting ∧ (stopRequest act s).2.sleep = s.sleep
      ∧ (stopRequest act s).2.pending = s.pending := by
  generalize h : (stopRequest act s) = t
  unfold stopRequest at h
  try dsimp only at h
  (repeat' split at h) <;> (subst h; simp)

@[simp] theorem clearFaultRequest_frame (act : Nat) (s : State) :
    (clearFaultRequest act s).2.powered = s.powered ∧ (clearFaultRequest act s).2.settings = s.settings
      ∧ (clearFaultRequest act s).2.store = s.store ∧ (clearFaultRequest act s).2.defaulted = s.defaulted
      ∧ (clearFaultRequest act s).2.saving = s.saving ∧ (clearFaultRequest act s).2.slowPeriod = s.slowPeriod
      ∧ (clearFaultRequest act s).2.account = s.account ∧ (clearFaultRequest act s).2.drive = s.drive
      ∧ (clearFaultRequest act s).2.adm = s.adm ∧ (clearFaultRequest act s).2.tanks = s.tanks
      ∧ (clearFaultRequest act s).2.water = s.water ∧ (clearFaultRequest act s).2.heater = s.heater
      ∧ (clearFaultRequest act s).2.frost = s.frost ∧ (clearFaultRequest act s).2.light = s.light
      ∧ (clearFaultRequest act s).2.runner = s.runner ∧ (clearFaultRequest act s).2.ports = s.ports
      ∧ (clearFaultRequest act s).2.restarting = s.restarting ∧ (clearFaultRequest act s).2.sleep = s.sleep
      ∧ (clearFaultRequest act s).2.pending = s.pending ∧ (clearFaultRequest act s).2.links = s.links := by
  generalize h : (clearFaultRequest act s) = t
  unfold clearFaultRequest at h
  try dsimp only at h
  (repeat' split at h) <;> (subst h; simp)

@[simp] theorem endSwitchChange_frame (a : Actuator) (w : EndSwitch) (active : Bool) (s : State) :
    (endSwitchChange a w active s).powered = s.powered ∧ (endSwitchChange a w active s).settings = s.settings
      ∧ (endSwitchChange a w active s).store = s.store ∧ (endSwitchChange a w active s).defaulted = s.defaulted
      ∧ (endSwitchChange a w active s).saving = s.saving
      ∧ (endSwitchChange a w active s).slowPeriod = s.slowPeriod
      ∧ (endSwitchChange a w active s).account = s.account ∧ (endSwitchChange a w active s).drive = s.drive
      ∧ (endSwitchChange a w active s).tanks = s.tanks ∧ (endSwitchChange a w active s).water = s.water
      ∧ (endSwitchChange a w active s).heater = s.heater ∧ (endSwitchChange a w active s).frost = s.frost
      ∧ (endSwitchChange a w active s).light = s.light ∧ (endSwitchChange a w active s).links = s.links
      ∧ (endSwitchChange a w active s).restarting = s.restarting
      ∧ (endSwitchChange a w active s).sleep = s.sleep ∧ (endSwitchChange a w active s).pending = s.pending := by
  generalize h : (endSwitchChange a w active s) = t
  unfold endSwitchChange at h
  try dsimp only at h
  (repeat' split at h) <;> (subst h; simp)

@[simp] theorem reversalReached_frame (a : Actuator) (s : State) :
    (reversalReached a s).powered = s.powered ∧ (reversalReached a s).settings = s.settings
      ∧ (reversalReached a s).store = s.store ∧ (reversalReached a s).defaulted = s.defaulted
      ∧ (reversalReached a s).saving = s.saving ∧ (reversalReached a s).slowPeriod = s.slowPeriod
      ∧ (reversalReached a s).account = s.account ∧ (reversalReached a s).drive = s.drive
      ∧ (reversalReached a s).adm = s.adm ∧ (reversalReached a s).tanks = s.tanks
      ∧ (reversalReached a s).water = s.water ∧ (reversalReached a s).heater = s.heater
      ∧ (reversalReached a s).frost = s.frost ∧ (reversalReached a s).light = s.light
      ∧ (reversalReached a s).runner = s.runner ∧ (reversalReached a s).ports = s.ports
      ∧ (reversalReached a s).restarting = s.restarting ∧ (reversalReached a s).sleep = s.sleep
      ∧ (reversalReached a s).pending = s.pending ∧ (reversalReached a s).links = s.links := by
  generalize h : (reversalReached a s) = t
  unfold reversalReached at h
  try dsimp only at h
  (repeat' split at h) <;> (subst h; simp)

@[simp] theorem grantWaitReached_frame (a : Actuator) (s : State) :
    (grantWaitReached a s).powered = s.powered ∧ (grantWaitReached a s).settings = s.settings
      ∧ (grantWaitReached a s).store = s.store ∧ (grantWaitReached a s).defaulted = s.defaulted
      ∧ (grantWaitReached a s).saving = s.saving ∧ (grantWaitReached a s).slowPeriod = s.slowPeriod
      ∧ (grantWaitReached a s).account = s.account ∧ (grantWaitReached a s).drive = s.drive
      ∧ (grantWaitReached a s).tanks = s.tanks ∧ (grantWaitReached a s).water = s.water
      ∧ (grantWaitReached a s).heater = s.heater ∧ (grantWaitReached a s).frost = s.frost
      ∧ (grantWaitReached a s).light = s.light ∧ (grantWaitReached a s).links = s.links
      ∧ (grantWaitReached a s).restarting = s.restarting ∧ (grantWaitReached a s).sleep = s.sleep
      ∧ (grantWaitReached a s).pending = s.pending := by
  generalize h : (grantWaitReached a s) = t
  unfold grantWaitReached at h
  try dsimp only at h
  (repeat' split at h) <;> (subst h; simp)

@[simp] theorem stallReached_frame (a : Actuator) (s : State) :
    (stallReached a s).powered = s.powered ∧ (stallReached a s).settings = s.settings
      ∧ (stallReached a s).store = s.store ∧ (stallReached a s).defaulted = s.defaulted
      ∧ (stallReached a s).saving = s.saving ∧ (stallReached a s).slowPeriod = s.slowPeriod
      ∧ (stallReached a s).account = s.account ∧ (stallReached a s).drive = s.drive
      ∧ (stallReached a s).tanks = s.tanks ∧ (stallReached a s).water = s.water
      ∧ (stallReached a s).heater = s.heater ∧ (stallReached a s).frost = s.frost
      ∧ (stallReached a s).light = s.light ∧ (stallReached a s).links = s.links
      ∧ (stallReached a s).restarting = s.restarting ∧ (stallReached a s).sleep = s.sleep
      ∧ (stallReached a s).pending = s.pending := by
  generalize h : (stallReached a s) = t
  unfold stallReached at h
  try dsimp only at h
  (repeat' split at h) <;> (subst h; simp)

@[simp] theorem travelReached_frame (a : Actuator) (s : State) :
    (travelReached a s).powered = s.powered ∧ (travelReached a s).settings = s.settings
      ∧ (travelReached a s).store = s.store ∧ (travelReached a s).defaulted = s.defaulted
      ∧ (travelReached a s).saving = s.saving ∧ (travelReached a s).slowPeriod = s.slowPeriod
      ∧ (travelReached a s).account = s.account ∧ (travelReached a s).drive = s.drive
      ∧ (travelReached a s).tanks = s.tanks ∧ (travelReached a s).water = s.water
      ∧ (travelReached a s).heater = s.heater ∧ (travelReached a s).frost = s.frost
      ∧ (travelReached a s).light = s.light ∧ (travelReached a s).links = s.links
      ∧ (travelReached a s).restarting = s.restarting ∧ (travelReached a s).sleep = s.sleep
      ∧ (travelReached a s).pending = s.pending := by
  generalize h : (travelReached a s) = t
  unfold travelReached at h
  try dsimp only at h
  (repeat' split at h) <;> (subst h; simp)

@[simp] theorem stallSample_frame (a : Actuator) (p : Nat) (i : Reading) (s : State) :
    (stallSample a p i s).powered = s.powered ∧ (stallSample a p i s).settings = s.settings
      ∧ (stallSample a p i s).store = s.store ∧ (stallSample a p i s).defaulted = s.defaulted
      ∧ (stallSample a p i s).saving = s.saving ∧ (stallSample a p i s).slowPeriod = s.slowPeriod
      ∧ (stallSample a p i s).account = s.account ∧ (stallSample a p i s).drive = s.drive
      ∧ (stallSample a p i s).tanks = s.tanks ∧ (stallSample a p i s).water = s.water
      ∧ (stallSample a p i s).heater = s.heater ∧ (stallSample a p i s).frost = s.frost
      ∧ (stallSample a p i s).light = s.light ∧ (stallSample a p i s).links = s.links
      ∧ (stallSample a p i s).restarting = s.restarting ∧ (stallSample a p i s).sleep = s.sleep
      ∧ (stallSample a p i s).pending = s.pending := by
  generalize h : (stallSample a p i s) = t
  unfold stallSample at h
  try dsimp only at h
  (repeat' split at h) <;> (subst h; simp)

@[simp] theorem surgePast_frame (a : Actuator) (s : State) :
    (surgePast a s).powered = s.powered ∧ (surgePast a s).settings = s.settings
      ∧ (surgePast a s).store = s.store ∧ (surgePast a s).defaulted = s.defaulted
      ∧ (surgePast a s).saving = s.saving ∧ (surgePast a s).slowPeriod = s.slowPeriod
      ∧ (surgePast a s).account = s.account ∧ (surgePast a s).drive = s.drive ∧ (surgePast a s).adm = s.adm
      ∧ (surgePast a s).tanks = s.tanks ∧ (surgePast a s).water = s.water ∧ (surgePast a s).heater = s.heater
      ∧ (surgePast a s).frost = s.frost ∧ (surgePast a s).light = s.light ∧ (surgePast a s).runner = s.runner
      ∧ (surgePast a s).ports = s.ports ∧ (surgePast a s).links = s.links
      ∧ (surgePast a s).restarting = s.restarting ∧ (surgePast a s).sleep = s.sleep
      ∧ (surgePast a s).pending = s.pending := by
  generalize h : (surgePast a s) = t
  unfold surgePast at h
  try dsimp only at h
  (repeat' split at h) <;> (subst h; simp)

@[simp] theorem surgeSample_frame (s : State) :
    (surgeSample s).powered = s.powered ∧ (surgeSample s).settings = s.settings
      ∧ (surgeSample s).store = s.store ∧ (surgeSample s).defaulted = s.defaulted
      ∧ (surgeSample s).saving = s.saving ∧ (surgeSample s).slowPeriod = s.slowPeriod
      ∧ (surgeSample s).account = s.account ∧ (surgeSample s).drive = s.drive ∧ (surgeSample s).adm = s.adm
      ∧ (surgeSample s).tanks = s.tanks ∧ (surgeSample s).water = s.water ∧ (surgeSample s).heater = s.heater
      ∧ (surgeSample s).frost = s.frost ∧ (surgeSample s).light = s.light ∧ (surgeSample s).runner = s.runner
      ∧ (surgeSample s).ports = s.ports ∧ (surgeSample s).links = s.links
      ∧ (surgeSample s).restarting = s.restarting ∧ (surgeSample s).sleep = s.sleep
      ∧ (surgeSample s).pending = s.pending := by
  generalize h : (surgeSample s) = t
  unfold surgeSample at h
  try dsimp only at h
  (repeat' split at h) <;> (subst h; simp)

@[simp] theorem motionSample_frame (was : Motion) (x : Sample) (s : State) :
    (motionSample was x s).powered = s.powered ∧ (motionSample was x s).settings = s.settings
      ∧ (motionSample was x s).store = s.store ∧ (motionSample was x s).defaulted = s.defaulted
      ∧ (motionSample was x s).saving = s.saving ∧ (motionSample was x s).slowPeriod = s.slowPeriod
      ∧ (motionSample was x s).account = s.account ∧ (motionSample was x s).drive = s.drive
      ∧ (motionSample was x s).tanks = s.tanks ∧ (motionSample was x s).water = s.water
      ∧ (motionSample was x s).heater = s.heater ∧ (motionSample was x s).frost = s.frost
      ∧ (motionSample was x s).light = s.light ∧ (motionSample was x s).links = s.links
      ∧ (motionSample was x s).restarting = s.restarting ∧ (motionSample was x s).sleep = s.sleep
      ∧ (motionSample was x s).pending = s.pending := by
  generalize h : (motionSample was x s) = t
  unfold motionSample at h
  try dsimp only at h
  (repeat' split at h) <;> (subst h; simp)

@[simp] theorem motorGrant_frame (c : Cause) (s : State) :
    (motorGrant c s).powered = s.powered ∧ (motorGrant c s).settings = s.settings
      ∧ (motorGrant c s).store = s.store ∧ (motorGrant c s).defaulted = s.defaulted
      ∧ (motorGrant c s).saving = s.saving ∧ (motorGrant c s).slowPeriod = s.slowPeriod
      ∧ (motorGrant c s).account = s.account ∧ (motorGrant c s).drive = s.drive
      ∧ (motorGrant c s).tanks = s.tanks ∧ (motorGrant c s).water = s.water ∧ (motorGrant c s).heater = s.heater
      ∧ (motorGrant c s).frost = s.frost ∧ (motorGrant c s).light = s.light ∧ (motorGrant c s).links = s.links
      ∧ (motorGrant c s).restarting = s.restarting ∧ (motorGrant c s).sleep = s.sleep
      ∧ (motorGrant c s).pending = s.pending := by
  generalize h : (motorGrant c s) = t
  unfold motorGrant at h
  try dsimp only at h
  (repeat' split at h) <;> (subst h; simp)

@[simp] theorem pauseRecord_frame (a : Actuator) (s : State) :
    (pauseRecord a s).powered = s.powered ∧ (pauseRecord a s).settings = s.settings
      ∧ (pauseRecord a s).store = s.store ∧ (pauseRecord a s).defaulted = s.defaulted
      ∧ (pauseRecord a s).saving = s.saving ∧ (pauseRecord a s).slowPeriod = s.slowPeriod
      ∧ (pauseRecord a s).account = s.account ∧ (pauseRecord a s).drive = s.drive
      ∧ (pauseRecord a s).adm = s.adm ∧ (pauseRecord a s).tanks = s.tanks ∧ (pauseRecord a s).water = s.water
      ∧ (pauseRecord a s).heater = s.heater ∧ (pauseRecord a s).frost = s.frost
      ∧ (pauseRecord a s).light = s.light ∧ (pauseRecord a s).runner = s.runner
      ∧ (pauseRecord a s).ports = s.ports ∧ (pauseRecord a s).restarting = s.restarting
      ∧ (pauseRecord a s).sleep = s.sleep ∧ (pauseRecord a s).pending = s.pending
      ∧ (pauseRecord a s).links = s.links := by
  generalize h : (pauseRecord a s) = t
  unfold pauseRecord at h
  try dsimp only at h
  (repeat' split at h) <;> (subst h; simp)

@[simp] theorem resumeRecord_frame (a : Actuator) (s : State) :
    (resumeRecord a s).powered = s.powered ∧ (resumeRecord a s).settings = s.settings
      ∧ (resumeRecord a s).store = s.store ∧ (resumeRecord a s).defaulted = s.defaulted
      ∧ (resumeRecord a s).saving = s.saving ∧ (resumeRecord a s).slowPeriod = s.slowPeriod
      ∧ (resumeRecord a s).account = s.account ∧ (resumeRecord a s).drive = s.drive
      ∧ (resumeRecord a s).adm = s.adm ∧ (resumeRecord a s).tanks = s.tanks ∧ (resumeRecord a s).water = s.water
      ∧ (resumeRecord a s).heater = s.heater ∧ (resumeRecord a s).frost = s.frost
      ∧ (resumeRecord a s).light = s.light ∧ (resumeRecord a s).runner = s.runner
      ∧ (resumeRecord a s).ports = s.ports ∧ (resumeRecord a s).restarting = s.restarting
      ∧ (resumeRecord a s).sleep = s.sleep ∧ (resumeRecord a s).pending = s.pending
      ∧ (resumeRecord a s).links = s.links := by
  generalize h : (resumeRecord a s) = t
  unfold resumeRecord at h
  try dsimp only at h
  (repeat' split at h) <;> (subst h; simp)

@[simp] theorem awayRecord_frame (a : Actuator) (s : State) :
    (awayRecord a s).powered = s.powered ∧ (awayRecord a s).settings = s.settings
      ∧ (awayRecord a s).store = s.store ∧ (awayRecord a s).defaulted = s.defaulted
      ∧ (awayRecord a s).saving = s.saving ∧ (awayRecord a s).slowPeriod = s.slowPeriod
      ∧ (awayRecord a s).account = s.account ∧ (awayRecord a s).drive = s.drive
      ∧ (awayRecord a s).tanks = s.tanks ∧ (awayRecord a s).water = s.water ∧ (awayRecord a s).heater = s.heater
      ∧ (awayRecord a s).frost = s.frost ∧ (awayRecord a s).light = s.light ∧ (awayRecord a s).links = s.links
      ∧ (awayRecord a s).restarting = s.restarting ∧ (awayRecord a s).sleep = s.sleep
      ∧ (awayRecord a s).pending = s.pending := by
  generalize h : (awayRecord a s) = t
  unfold awayRecord at h
  try dsimp only at h
  (repeat' split at h) <;> (subst h; simp)

@[simp] theorem driveAway_frame (s : State) :
    (driveAway s).powered = s.powered ∧ (driveAway s).settings = s.settings ∧ (driveAway s).store = s.store
      ∧ (driveAway s).defaulted = s.defaulted ∧ (driveAway s).saving = s.saving
      ∧ (driveAway s).slowPeriod = s.slowPeriod ∧ (driveAway s).account = s.account
      ∧ (driveAway s).drive = s.drive ∧ (driveAway s).tanks = s.tanks ∧ (driveAway s).water = s.water
      ∧ (driveAway s).heater = s.heater ∧ (driveAway s).frost = s.frost ∧ (driveAway s).light = s.light
      ∧ (driveAway s).links = s.links ∧ (driveAway s).restarting = s.restarting ∧ (driveAway s).sleep = s.sleep
      ∧ (driveAway s).pending = s.pending := by
  generalize h : (driveAway s) = t
  unfold driveAway at h
  try dsimp only at h
  (repeat' split at h) <;> (subst h; simp)

@[simp] theorem interlockDeploys_frame (s : State) :
    (interlockDeploys s).powered = s.powered ∧ (interlockDeploys s).settings = s.settings
      ∧ (interlockDeploys s).store = s.store ∧ (interlockDeploys s).defaulted = s.defaulted
      ∧ (interlockDeploys s).saving = s.saving ∧ (interlockDeploys s).slowPeriod = s.slowPeriod
      ∧ (interlockDeploys s).account = s.account ∧ (interlockDeploys s).drive = s.drive
      ∧ (interlockDeploys s).tanks = s.tanks ∧ (interlockDeploys s).water = s.water
      ∧ (interlockDeploys s).heater = s.heater ∧ (interlockDeploys s).frost = s.frost
      ∧ (interlockDeploys s).light = s.light ∧ (interlockDeploys s).links = s.links
      ∧ (interlockDeploys s).restarting = s.restarting ∧ (interlockDeploys s).sleep = s.sleep
      ∧ (interlockDeploys s).pending = s.pending := by
  unfold interlockDeploys
  dsimp only
  generalize (if s.motion.waiter = some Actuator.step then Actuator.step else Actuator.awning) = first
  by_cases h1 : (s.motionRec first).deploying = true <;>
    by_cases h2 : ((if (s.motionRec first).deploying = true then stopRecord first .interlock s else s).motionRec
      (otherActuator first)).deploying = true <;> simp_all

@[simp] theorem motionDriveChange_frame (old new : DriveState) (s : State) :
    (motionDriveChange old new s).powered = s.powered ∧ (motionDriveChange old new s).settings = s.settings
      ∧ (motionDriveChange old new s).store = s.store ∧ (motionDriveChange old new s).defaulted = s.defaulted
      ∧ (motionDriveChange old new s).saving = s.saving
      ∧ (motionDriveChange old new s).slowPeriod = s.slowPeriod
      ∧ (motionDriveChange old new s).account = s.account ∧ (motionDriveChange old new s).drive = s.drive
      ∧ (motionDriveChange old new s).tanks = s.tanks ∧ (motionDriveChange old new s).water = s.water
      ∧ (motionDriveChange old new s).heater = s.heater ∧ (motionDriveChange old new s).frost = s.frost
      ∧ (motionDriveChange old new s).light = s.light ∧ (motionDriveChange old new s).links = s.links
      ∧ (motionDriveChange old new s).restarting = s.restarting ∧ (motionDriveChange old new s).sleep = s.sleep
      ∧ (motionDriveChange old new s).pending = s.pending := by
  generalize h : (motionDriveChange old new s) = t
  unfold motionDriveChange at h
  try dsimp only at h
  (repeat' split at h) <;> (subst h; simp)

/-! ### Lighting -/

@[simp] theorem askLight_frame (f d : Nat) (s : State) :
    (askLight f d s).powered = s.powered ∧ (askLight f d s).settings = s.settings
      ∧ (askLight f d s).store = s.store ∧ (askLight f d s).defaulted = s.defaulted
      ∧ (askLight f d s).saving = s.saving ∧ (askLight f d s).slowPeriod = s.slowPeriod
      ∧ (askLight f d s).account = s.account ∧ (askLight f d s).drive = s.drive
      ∧ (askLight f d s).tanks = s.tanks ∧ (askLight f d s).water = s.water ∧ (askLight f d s).heater = s.heater
      ∧ (askLight f d s).frost = s.frost ∧ (askLight f d s).motion = s.motion
      ∧ (askLight f d s).runner = s.runner ∧ (askLight f d s).ports = s.ports
      ∧ (askLight f d s).restarting = s.restarting ∧ (askLight f d s).sleep = s.sleep
      ∧ (askLight f d s).pending = s.pending ∧ (askLight f d s).links = s.links := by
  generalize h : (askLight f d s) = t
  unfold askLight at h
  try dsimp only at h
  (repeat' split at h) <;> (subst h; simp)

@[simp] theorem lightDemand_frame (s : State) :
    (lightDemand s).powered = s.powered ∧ (lightDemand s).settings = s.settings
      ∧ (lightDemand s).store = s.store ∧ (lightDemand s).defaulted = s.defaulted
      ∧ (lightDemand s).saving = s.saving ∧ (lightDemand s).slowPeriod = s.slowPeriod
      ∧ (lightDemand s).account = s.account ∧ (lightDemand s).drive = s.drive ∧ (lightDemand s).tanks = s.tanks
      ∧ (lightDemand s).water = s.water ∧ (lightDemand s).heater = s.heater ∧ (lightDemand s).frost = s.frost
      ∧ (lightDemand s).motion = s.motion ∧ (lightDemand s).runner = s.runner ∧ (lightDemand s).ports = s.ports
      ∧ (lightDemand s).restarting = s.restarting ∧ (lightDemand s).sleep = s.sleep
      ∧ (lightDemand s).pending = s.pending ∧ (lightDemand s).links = s.links := by
  generalize h : (lightDemand s) = t
  unfold lightDemand at h
  try dsimp only at h
  (repeat' split at h) <;> (subst h; simp)

@[simp] theorem lightGrant_frame (g : GrantChange) (s : State) :
    (lightGrant g s).powered = s.powered ∧ (lightGrant g s).settings = s.settings
      ∧ (lightGrant g s).store = s.store ∧ (lightGrant g s).defaulted = s.defaulted
      ∧ (lightGrant g s).saving = s.saving ∧ (lightGrant g s).slowPeriod = s.slowPeriod
      ∧ (lightGrant g s).account = s.account ∧ (lightGrant g s).drive = s.drive ∧ (lightGrant g s).adm = s.adm
      ∧ (lightGrant g s).tanks = s.tanks ∧ (lightGrant g s).water = s.water ∧ (lightGrant g s).heater = s.heater
      ∧ (lightGrant g s).frost = s.frost ∧ (lightGrant g s).motion = s.motion
      ∧ (lightGrant g s).runner = s.runner ∧ (lightGrant g s).ports = s.ports
      ∧ (lightGrant g s).restarting = s.restarting ∧ (lightGrant g s).sleep = s.sleep
      ∧ (lightGrant g s).pending = s.pending ∧ (lightGrant g s).links = s.links := by
  generalize h : (lightGrant g s) = t
  unfold lightGrant at h
  try dsimp only at h
  (repeat' split at h) <;> (subst h; simp)

@[simp] theorem sceneRequest_frame (n scope : Nat) (s : State) :
    (sceneRequest n scope s).2.powered = s.powered ∧ (sceneRequest n scope s).2.settings = s.settings
      ∧ (sceneRequest n scope s).2.store = s.store ∧ (sceneRequest n scope s).2.defaulted = s.defaulted
      ∧ (sceneRequest n scope s).2.saving = s.saving ∧ (sceneRequest n scope s).2.slowPeriod = s.slowPeriod
      ∧ (sceneRequest n scope s).2.account = s.account ∧ (sceneRequest n scope s).2.drive = s.drive
      ∧ (sceneRequest n scope s).2.tanks = s.tanks ∧ (sceneRequest n scope s).2.water = s.water
      ∧ (sceneRequest n scope s).2.heater = s.heater ∧ (sceneRequest n scope s).2.frost = s.frost
      ∧ (sceneRequest n scope s).2.motion = s.motion ∧ (sceneRequest n scope s).2.runner = s.runner
      ∧ (sceneRequest n scope s).2.ports = s.ports ∧ (sceneRequest n scope s).2.restarting = s.restarting
      ∧ (sceneRequest n scope s).2.sleep = s.sleep ∧ (sceneRequest n scope s).2.pending = s.pending
      ∧ (sceneRequest n scope s).2.links = s.links := by
  generalize h : (sceneRequest n scope s) = t
  unfold sceneRequest at h
  try dsimp only at h
  (repeat' split at h) <;> (subst h; simp)

/-- The writing of levels touches lighting, and judges the sleep conditions. -/
@[simp] theorem writeLevels_frame (p : PortId) (list : List Nat) (s : State) :
    (writeLevels p list s).powered = s.powered ∧ (writeLevels p list s).settings = s.settings
      ∧ (writeLevels p list s).store = s.store ∧ (writeLevels p list s).defaulted = s.defaulted
      ∧ (writeLevels p list s).saving = s.saving ∧ (writeLevels p list s).slowPeriod = s.slowPeriod
      ∧ (writeLevels p list s).account = s.account ∧ (writeLevels p list s).drive = s.drive
      ∧ (writeLevels p list s).adm = s.adm ∧ (writeLevels p list s).tanks = s.tanks
      ∧ (writeLevels p list s).water = s.water ∧ (writeLevels p list s).heater = s.heater
      ∧ (writeLevels p list s).frost = s.frost ∧ (writeLevels p list s).motion = s.motion
      ∧ (writeLevels p list s).runner = s.runner ∧ (writeLevels p list s).ports = s.ports
      ∧ (writeLevels p list s).restarting = s.restarting ∧ (writeLevels p list s).pending = s.pending
      ∧ (writeLevels p list s).links = s.links := by
  induction list generalizing s with
  | nil => simp [writeLevels]
  | cons v rest ih => simp [writeLevels, ih]

@[simp] theorem levelsRequest_frame (p : PortId) (first last mode : Nat) (list : List Nat) (s : State) :
    (levelsRequest p first last mode list s).2.powered = s.powered
      ∧ (levelsRequest p first last mode list s).2.settings = s.settings
      ∧ (levelsRequest p first last mode list s).2.store = s.store
      ∧ (levelsRequest p first last mode list s).2.defaulted = s.defaulted
      ∧ (levelsRequest p first last mode list s).2.saving = s.saving
      ∧ (levelsRequest p first last mode list s).2.slowPeriod = s.slowPeriod
      ∧ (levelsRequest p first last mode list s).2.account = s.account
      ∧ (levelsRequest p first last mode list s).2.drive = s.drive
      ∧ (levelsRequest p first last mode list s).2.tanks = s.tanks
      ∧ (levelsRequest p first last mode list s).2.water = s.water
      ∧ (levelsRequest p first last mode list s).2.heater = s.heater
      ∧ (levelsRequest p first last mode list s).2.frost = s.frost
      ∧ (levelsRequest p first last mode list s).2.motion = s.motion
      ∧ (levelsRequest p first last mode list s).2.runner = s.runner
      ∧ (levelsRequest p first last mode list s).2.ports = s.ports
      ∧ (levelsRequest p first last mode list s).2.restarting = s.restarting
      ∧ (levelsRequest p first last mode list s).2.pending = s.pending
      ∧ (levelsRequest p first last mode list s).2.links = s.links := by
  generalize h : (levelsRequest p first last mode list s) = t
  unfold levelsRequest at h
  try dsimp only at h
  (repeat' split at h) <;> (subst h; simp)

@[simp] theorem lightPortReset_frame (p : PortId) (s : State) :
    (lightPortReset p s).powered = s.powered ∧ (lightPortReset p s).settings = s.settings
      ∧ (lightPortReset p s).store = s.store ∧ (lightPortReset p s).defaulted = s.defaulted
      ∧ (lightPortReset p s).saving = s.saving ∧ (lightPortReset p s).slowPeriod = s.slowPeriod
      ∧ (lightPortReset p s).account = s.account ∧ (lightPortReset p s).drive = s.drive
      ∧ (lightPortReset p s).adm = s.adm ∧ (lightPortReset p s).tanks = s.tanks
      ∧ (lightPortReset p s).water = s.water ∧ (lightPortReset p s).heater = s.heater
      ∧ (lightPortReset p s).frost = s.frost ∧ (lightPortReset p s).motion = s.motion
      ∧ (lightPortReset p s).runner = s.runner ∧ (lightPortReset p s).ports = s.ports
      ∧ (lightPortReset p s).restarting = s.restarting ∧ (lightPortReset p s).sleep = s.sleep
      ∧ (lightPortReset p s).pending = s.pending ∧ (lightPortReset p s).links = s.links := by
  generalize h : (lightPortReset p s) = t
  unfold lightPortReset at h
  try dsimp only at h
  (repeat' split at h) <;> (subst h; simp)

/-- The application of commits touches lighting, and judges the sleep conditions. -/
@[simp] theorem applyEach_frame (list : List Commit) (s : State) :
    (applyEach list s).powered = s.powered ∧ (applyEach list s).settings = s.settings
      ∧ (applyEach list s).store = s.store ∧ (applyEach list s).defaulted = s.defaulted
      ∧ (applyEach list s).saving = s.saving ∧ (applyEach list s).slowPeriod = s.slowPeriod
      ∧ (applyEach list s).account = s.account ∧ (applyEach list s).drive = s.drive
      ∧ (applyEach list s).adm = s.adm ∧ (applyEach list s).tanks = s.tanks ∧ (applyEach list s).water = s.water
      ∧ (applyEach list s).heater = s.heater ∧ (applyEach list s).frost = s.frost
      ∧ (applyEach list s).motion = s.motion ∧ (applyEach list s).runner = s.runner
      ∧ (applyEach list s).ports = s.ports ∧ (applyEach list s).restarting = s.restarting
      ∧ (applyEach list s).pending = s.pending ∧ (applyEach list s).links = s.links := by
  induction list generalizing s with
  | nil => simp [applyEach]
  | cons c rest ih => simp [applyEach, ih]

@[simp] theorem applyCommits_frame (s : State) :
    (applyCommits s).powered = s.powered ∧ (applyCommits s).settings = s.settings
      ∧ (applyCommits s).store = s.store ∧ (applyCommits s).defaulted = s.defaulted
      ∧ (applyCommits s).saving = s.saving ∧ (applyCommits s).slowPeriod = s.slowPeriod
      ∧ (applyCommits s).account = s.account ∧ (applyCommits s).drive = s.drive ∧ (applyCommits s).adm = s.adm
      ∧ (applyCommits s).tanks = s.tanks ∧ (applyCommits s).water = s.water ∧ (applyCommits s).heater = s.heater
      ∧ (applyCommits s).frost = s.frost ∧ (applyCommits s).motion = s.motion
      ∧ (applyCommits s).runner = s.runner ∧ (applyCommits s).ports = s.ports
      ∧ (applyCommits s).restarting = s.restarting ∧ (applyCommits s).pending = s.pending
      ∧ (applyCommits s).links = s.links := by
  unfold applyCommits
  simp

@[simp] theorem frameBegin_frame (s : State) :
    (frameBegin s).powered = s.powered ∧ (frameBegin s).settings = s.settings ∧ (frameBegin s).store = s.store
      ∧ (frameBegin s).defaulted = s.defaulted ∧ (frameBegin s).saving = s.saving
      ∧ (frameBegin s).slowPeriod = s.slowPeriod ∧ (frameBegin s).account = s.account
      ∧ (frameBegin s).drive = s.drive ∧ (frameBegin s).tanks = s.tanks ∧ (frameBegin s).water = s.water
      ∧ (frameBegin s).heater = s.heater ∧ (frameBegin s).frost = s.frost ∧ (frameBegin s).motion = s.motion
      ∧ (frameBegin s).runner = s.runner ∧ (frameBegin s).ports = s.ports
      ∧ (frameBegin s).restarting = s.restarting
      ∧ (frameBegin s).pending = s.pending ∧ (frameBegin s).links = s.links := by
  generalize h : (frameBegin s) = t
  unfold frameBegin at h
  try dsimp only at h
  (repeat' split at h) <;> (subst h; simp)

@[simp] theorem frameEnd_frame (s : State) :
    (frameEnd s).powered = s.powered ∧ (frameEnd s).settings = s.settings ∧ (frameEnd s).store = s.store
      ∧ (frameEnd s).defaulted = s.defaulted ∧ (frameEnd s).saving = s.saving
      ∧ (frameEnd s).slowPeriod = s.slowPeriod ∧ (frameEnd s).account = s.account ∧ (frameEnd s).drive = s.drive
      ∧ (frameEnd s).adm = s.adm ∧ (frameEnd s).tanks = s.tanks ∧ (frameEnd s).water = s.water
      ∧ (frameEnd s).heater = s.heater ∧ (frameEnd s).frost = s.frost ∧ (frameEnd s).motion = s.motion
      ∧ (frameEnd s).runner = s.runner ∧ (frameEnd s).ports = s.ports ∧ (frameEnd s).restarting = s.restarting
      ∧ (frameEnd s).sleep = s.sleep ∧ (frameEnd s).pending = s.pending ∧ (frameEnd s).links = s.links := by
  generalize h : (frameEnd s) = t
  unfold frameEnd at h
  try dsimp only at h
  (repeat' split at h) <;> (subst h; simp)

/-! ### Drive -/

@[simp] theorem setDriveState_frame (new : DriveState) (s : State) :
    (setDriveState new s).powered = s.powered ∧ (setDriveState new s).settings = s.settings
      ∧ (setDriveState new s).store = s.store ∧ (setDriveState new s).defaulted = s.defaulted
      ∧ (setDriveState new s).saving = s.saving ∧ (setDriveState new s).slowPeriod = s.slowPeriod
      ∧ (setDriveState new s).account = s.account ∧ (setDriveState new s).tanks = s.tanks
      ∧ (setDriveState new s).water = s.water ∧ (setDriveState new s).heater = s.heater
      ∧ (setDriveState new s).frost = s.frost ∧ (setDriveState new s).light = s.light
      ∧ (setDriveState new s).links = s.links ∧ (setDriveState new s).restarting = s.restarting
      ∧ (setDriveState new s).sleep = s.sleep ∧ (setDriveState new s).pending = s.pending := by
  generalize h : (setDriveState new s) = t
  unfold setDriveState at h
  try dsimp only at h
  (repeat' split at h) <;> (subst h; simp)

@[simp] theorem driveReport_frame (ign eng crk hb speed : Nat) (s : State) :
    (driveReport ign eng crk hb speed s).2.powered = s.powered
      ∧ (driveReport ign eng crk hb speed s).2.settings = s.settings
      ∧ (driveReport ign eng crk hb speed s).2.store = s.store
      ∧ (driveReport ign eng crk hb speed s).2.defaulted = s.defaulted
      ∧ (driveReport ign eng crk hb speed s).2.saving = s.saving
      ∧ (driveReport ign eng crk hb speed s).2.slowPeriod = s.slowPeriod
      ∧ (driveReport ign eng crk hb speed s).2.account = s.account
      ∧ (driveReport ign eng crk hb speed s).2.tanks = s.tanks
      ∧ (driveReport ign eng crk hb speed s).2.water = s.water
      ∧ (driveReport ign eng crk hb speed s).2.heater = s.heater
      ∧ (driveReport ign eng crk hb speed s).2.frost = s.frost
      ∧ (driveReport ign eng crk hb speed s).2.links = s.links
      ∧ (driveReport ign eng crk hb speed s).2.restarting = s.restarting
      ∧ (driveReport ign eng crk hb speed s).2.pending = s.pending := by
  generalize h : (driveReport ign eng crk hb speed s) = t
  unfold driveReport at h
  try dsimp only at h
  (repeat' split at h) <;> (subst h; simp)

@[simp] theorem crankReached_frame (s : State) :
    (crankReached s).powered = s.powered ∧ (crankReached s).settings = s.settings
      ∧ (crankReached s).store = s.store ∧ (crankReached s).defaulted = s.defaulted
      ∧ (crankReached s).saving = s.saving ∧ (crankReached s).slowPeriod = s.slowPeriod
      ∧ (crankReached s).account = s.account ∧ (crankReached s).tanks = s.tanks
      ∧ (crankReached s).water = s.water ∧ (crankReached s).heater = s.heater ∧ (crankReached s).frost = s.frost
      ∧ (crankReached s).light = s.light ∧ (crankReached s).links = s.links
      ∧ (crankReached s).restarting = s.restarting ∧ (crankReached s).sleep = s.sleep
      ∧ (crankReached s).pending = s.pending := by
  generalize h : (crankReached s) = t
  unfold crankReached at h
  try dsimp only at h
  (repeat' split at h) <;> (subst h; simp)

@[simp] theorem staleReached_frame (s : State) :
    (staleReached s).powered = s.powered ∧ (staleReached s).settings = s.settings
      ∧ (staleReached s).store = s.store ∧ (staleReached s).defaulted = s.defaulted
      ∧ (staleReached s).saving = s.saving ∧ (staleReached s).slowPeriod = s.slowPeriod
      ∧ (staleReached s).account = s.account ∧ (staleReached s).tanks = s.tanks
      ∧ (staleReached s).water = s.water ∧ (staleReached s).heater = s.heater ∧ (staleReached s).frost = s.frost
      ∧ (staleReached s).light = s.light ∧ (staleReached s).links = s.links
      ∧ (staleReached s).restarting = s.restarting ∧ (staleReached s).sleep = s.sleep
      ∧ (staleReached s).pending = s.pending := by
  generalize h : (staleReached s) = t
  unfold staleReached at h
  try dsimp only at h
  (repeat' split at h) <;> (subst h; simp)

@[simp] theorem shoreChange_frame (active : Bool) (s : State) :
    (shoreChange active s).powered = s.powered ∧ (shoreChange active s).settings = s.settings
      ∧ (shoreChange active s).store = s.store ∧ (shoreChange active s).defaulted = s.defaulted
      ∧ (shoreChange active s).saving = s.saving ∧ (shoreChange active s).slowPeriod = s.slowPeriod
      ∧ (shoreChange active s).account = s.account ∧ (shoreChange active s).adm = s.adm
      ∧ (shoreChange active s).tanks = s.tanks ∧ (shoreChange active s).water = s.water
      ∧ (shoreChange active s).heater = s.heater ∧ (shoreChange active s).frost = s.frost
      ∧ (shoreChange active s).motion = s.motion ∧ (shoreChange active s).runner = s.runner
      ∧ (shoreChange active s).ports = s.ports ∧ (shoreChange active s).restarting = s.restarting
      ∧ (shoreChange active s).pending = s.pending ∧ (shoreChange active s).links = s.links := by
  generalize h : (shoreChange active s) = t
  unfold shoreChange at h
  try dsimp only at h
  (repeat' split at h) <;> (subst h; simp)

@[simp] theorem setInhibit_frame (on : Bool) (c : InhibitCause) (s : State) :
    (setInhibit on c s).powered = s.powered ∧ (setInhibit on c s).settings = s.settings
      ∧ (setInhibit on c s).store = s.store ∧ (setInhibit on c s).defaulted = s.defaulted
      ∧ (setInhibit on c s).saving = s.saving ∧ (setInhibit on c s).slowPeriod = s.slowPeriod
      ∧ (setInhibit on c s).account = s.account ∧ (setInhibit on c s).adm = s.adm
      ∧ (setInhibit on c s).tanks = s.tanks ∧ (setInhibit on c s).water = s.water
      ∧ (setInhibit on c s).heater = s.heater ∧ (setInhibit on c s).frost = s.frost
      ∧ (setInhibit on c s).motion = s.motion ∧ (setInhibit on c s).light = s.light
      ∧ (setInhibit on c s).runner = s.runner ∧ (setInhibit on c s).links = s.links
      ∧ (setInhibit on c s).restarting = s.restarting ∧ (setInhibit on c s).sleep = s.sleep
      ∧ (setInhibit on c s).pending = s.pending := by
  generalize h : (setInhibit on c s) = t
  unfold setInhibit at h
  try dsimp only at h
  (repeat' split at h) <;> (subst h; simp)

@[simp] theorem judgeInhibit_frame (p : Nat) (r : Reading) (s : State) :
    (judgeInhibit p r s).powered = s.powered ∧ (judgeInhibit p r s).settings = s.settings
      ∧ (judgeInhibit p r s).store = s.store ∧ (judgeInhibit p r s).defaulted = s.defaulted
      ∧ (judgeInhibit p r s).saving = s.saving ∧ (judgeInhibit p r s).slowPeriod = s.slowPeriod
      ∧ (judgeInhibit p r s).account = s.account ∧ (judgeInhibit p r s).adm = s.adm
      ∧ (judgeInhibit p r s).tanks = s.tanks ∧ (judgeInhibit p r s).water = s.water
      ∧ (judgeInhibit p r s).heater = s.heater ∧ (judgeInhibit p r s).frost = s.frost
      ∧ (judgeInhibit p r s).motion = s.motion ∧ (judgeInhibit p r s).light = s.light
      ∧ (judgeInhibit p r s).runner = s.runner ∧ (judgeInhibit p r s).links = s.links
      ∧ (judgeInhibit p r s).restarting = s.restarting ∧ (judgeInhibit p r s).sleep = s.sleep
      ∧ (judgeInhibit p r s).pending = s.pending := by
  generalize h : (judgeInhibit p r s) = t
  unfold judgeInhibit at h
  try dsimp only at h
  (repeat' split at h) <;> (subst h; simp)

@[simp] theorem inhibitSample_frame (p : Nat) (r : Reading) (s : State) :
    (inhibitSample p r s).powered = s.powered ∧ (inhibitSample p r s).settings = s.settings
      ∧ (inhibitSample p r s).store = s.store ∧ (inhibitSample p r s).defaulted = s.defaulted
      ∧ (inhibitSample p r s).saving = s.saving ∧ (inhibitSample p r s).slowPeriod = s.slowPeriod
      ∧ (inhibitSample p r s).account = s.account ∧ (inhibitSample p r s).adm = s.adm
      ∧ (inhibitSample p r s).tanks = s.tanks ∧ (inhibitSample p r s).water = s.water
      ∧ (inhibitSample p r s).heater = s.heater ∧ (inhibitSample p r s).frost = s.frost
      ∧ (inhibitSample p r s).motion = s.motion ∧ (inhibitSample p r s).light = s.light
      ∧ (inhibitSample p r s).runner = s.runner ∧ (inhibitSample p r s).links = s.links
      ∧ (inhibitSample p r s).restarting = s.restarting ∧ (inhibitSample p r s).sleep = s.sleep
      ∧ (inhibitSample p r s).pending = s.pending := by
  generalize h : (inhibitSample p r s) = t
  unfold inhibitSample at h
  try dsimp only at h
  (repeat' split at h) <;> (subst h; simp)

@[simp] theorem inhibitReached_frame (s : State) :
    (inhibitReached s).powered = s.powered ∧ (inhibitReached s).settings = s.settings
      ∧ (inhibitReached s).store = s.store ∧ (inhibitReached s).defaulted = s.defaulted
      ∧ (inhibitReached s).saving = s.saving ∧ (inhibitReached s).slowPeriod = s.slowPeriod
      ∧ (inhibitReached s).account = s.account ∧ (inhibitReached s).adm = s.adm
      ∧ (inhibitReached s).tanks = s.tanks ∧ (inhibitReached s).water = s.water
      ∧ (inhibitReached s).heater = s.heater ∧ (inhibitReached s).frost = s.frost
      ∧ (inhibitReached s).motion = s.motion ∧ (inhibitReached s).light = s.light
      ∧ (inhibitReached s).runner = s.runner ∧ (inhibitReached s).links = s.links
      ∧ (inhibitReached s).restarting = s.restarting ∧ (inhibitReached s).sleep = s.sleep
      ∧ (inhibitReached s).pending = s.pending := by
  generalize h : (inhibitReached s) = t
  unfold inhibitReached at h
  try dsimp only at h
  (repeat' split at h) <;> (subst h; simp)

@[simp] theorem driveSample_frame (x : Sample) (s : State) :
    (driveSample x s).powered = s.powered ∧ (driveSample x s).settings = s.settings
      ∧ (driveSample x s).store = s.store ∧ (driveSample x s).defaulted = s.defaulted
      ∧ (driveSample x s).saving = s.saving ∧ (driveSample x s).slowPeriod = s.slowPeriod
      ∧ (driveSample x s).account = s.account ∧ (driveSample x s).adm = s.adm
      ∧ (driveSample x s).tanks = s.tanks ∧ (driveSample x s).water = s.water
      ∧ (driveSample x s).heater = s.heater ∧ (driveSample x s).frost = s.frost
      ∧ (driveSample x s).motion = s.motion ∧ (driveSample x s).light = s.light
      ∧ (driveSample x s).runner = s.runner ∧ (driveSample x s).links = s.links
      ∧ (driveSample x s).restarting = s.restarting ∧ (driveSample x s).sleep = s.sleep
      ∧ (driveSample x s).pending = s.pending := by
  generalize h : (driveSample x s) = t
  unfold driveSample at h
  try dsimp only at h
  (repeat' split at h) <;> (subst h; simp)

/-! ### Routine -/

@[simp] theorem startRun_frame (c : Call) (s : State) :
    (startRun c s).powered = s.powered ∧ (startRun c s).settings = s.settings ∧ (startRun c s).store = s.store
      ∧ (startRun c s).defaulted = s.defaulted ∧ (startRun c s).saving = s.saving
      ∧ (startRun c s).slowPeriod = s.slowPeriod ∧ (startRun c s).account = s.account
      ∧ (startRun c s).drive = s.drive ∧ (startRun c s).adm = s.adm ∧ (startRun c s).tanks = s.tanks
      ∧ (startRun c s).water = s.water ∧ (startRun c s).heater = s.heater ∧ (startRun c s).frost = s.frost
      ∧ (startRun c s).motion = s.motion ∧ (startRun c s).light = s.light ∧ (startRun c s).ports = s.ports
      ∧ (startRun c s).restarting = s.restarting ∧ (startRun c s).sleep = s.sleep
      ∧ (startRun c s).pending = s.pending ∧ (startRun c s).links = s.links := by
  generalize h : (startRun c s) = t
  unfold startRun at h
  try dsimp only at h
  (repeat' split at h) <;> (subst h; simp)

@[simp] theorem startPending_frame (s : State) :
    (startPending s).powered = s.powered ∧ (startPending s).settings = s.settings
      ∧ (startPending s).store = s.store ∧ (startPending s).defaulted = s.defaulted
      ∧ (startPending s).saving = s.saving ∧ (startPending s).slowPeriod = s.slowPeriod
      ∧ (startPending s).account = s.account ∧ (startPending s).drive = s.drive ∧ (startPending s).adm = s.adm
      ∧ (startPending s).tanks = s.tanks ∧ (startPending s).water = s.water ∧ (startPending s).heater = s.heater
      ∧ (startPending s).frost = s.frost ∧ (startPending s).motion = s.motion ∧ (startPending s).light = s.light
      ∧ (startPending s).ports = s.ports ∧ (startPending s).restarting = s.restarting
      ∧ (startPending s).sleep = s.sleep ∧ (startPending s).pending = s.pending
      ∧ (startPending s).links = s.links := by
  generalize h : (startPending s) = t
  unfold startPending at h
  try dsimp only at h
  (repeat' split at h) <;> (subst h; simp)

@[simp] theorem endRun_frame (k : EndKind) (why : EndReason) (s : State) :
    (endRun k why s).powered = s.powered ∧ (endRun k why s).settings = s.settings
      ∧ (endRun k why s).store = s.store ∧ (endRun k why s).defaulted = s.defaulted
      ∧ (endRun k why s).saving = s.saving ∧ (endRun k why s).slowPeriod = s.slowPeriod
      ∧ (endRun k why s).account = s.account ∧ (endRun k why s).drive = s.drive ∧ (endRun k why s).adm = s.adm
      ∧ (endRun k why s).tanks = s.tanks ∧ (endRun k why s).water = s.water ∧ (endRun k why s).heater = s.heater
      ∧ (endRun k why s).frost = s.frost ∧ (endRun k why s).motion = s.motion ∧ (endRun k why s).light = s.light
      ∧ (endRun k why s).links = s.links ∧ (endRun k why s).restarting = s.restarting
      ∧ (endRun k why s).sleep = s.sleep ∧ (endRun k why s).pending = s.pending := by
  generalize h : (endRun k why s) = t
  unfold endRun at h
  try dsimp only at h
  (repeat' split at h) <;> (subst h; simp)

@[simp] theorem completeStep_frame (s : State) :
    (completeStep s).powered = s.powered ∧ (completeStep s).settings = s.settings
      ∧ (completeStep s).store = s.store ∧ (completeStep s).defaulted = s.defaulted
      ∧ (completeStep s).saving = s.saving ∧ (completeStep s).slowPeriod = s.slowPeriod
      ∧ (completeStep s).account = s.account ∧ (completeStep s).drive = s.drive ∧ (completeStep s).adm = s.adm
      ∧ (completeStep s).tanks = s.tanks ∧ (completeStep s).water = s.water ∧ (completeStep s).heater = s.heater
      ∧ (completeStep s).frost = s.frost ∧ (completeStep s).motion = s.motion ∧ (completeStep s).light = s.light
      ∧ (completeStep s).links = s.links ∧ (completeStep s).restarting = s.restarting
      ∧ (completeStep s).sleep = s.sleep ∧ (completeStep s).pending = s.pending := by
  generalize h : (completeStep s) = t
  unfold completeStep at h
  try dsimp only at h
  (repeat' split at h) <;> (subst h; simp)

@[simp] theorem waitStep_frame (ph : RunPhase) (s : State) :
    (waitStep ph s).powered = s.powered ∧ (waitStep ph s).settings = s.settings
      ∧ (waitStep ph s).store = s.store ∧ (waitStep ph s).defaulted = s.defaulted
      ∧ (waitStep ph s).saving = s.saving ∧ (waitStep ph s).slowPeriod = s.slowPeriod
      ∧ (waitStep ph s).account = s.account ∧ (waitStep ph s).drive = s.drive ∧ (waitStep ph s).adm = s.adm
      ∧ (waitStep ph s).tanks = s.tanks ∧ (waitStep ph s).water = s.water ∧ (waitStep ph s).heater = s.heater
      ∧ (waitStep ph s).frost = s.frost ∧ (waitStep ph s).motion = s.motion ∧ (waitStep ph s).light = s.light
      ∧ (waitStep ph s).ports = s.ports ∧ (waitStep ph s).restarting = s.restarting
      ∧ (waitStep ph s).sleep = s.sleep ∧ (waitStep ph s).pending = s.pending ∧ (waitStep ph s).links = s.links := by
  generalize h : (waitStep ph s) = t
  unfold waitStep at h
  try dsimp only at h
  (repeat' split at h) <;> (subst h; simp)

@[simp] theorem stepAnswered_frame (ph : RunPhase) (r : Status × State) :
    (stepAnswered ph r).powered = r.2.powered ∧ (stepAnswered ph r).settings = r.2.settings
      ∧ (stepAnswered ph r).store = r.2.store ∧ (stepAnswered ph r).defaulted = r.2.defaulted
      ∧ (stepAnswered ph r).saving = r.2.saving ∧ (stepAnswered ph r).slowPeriod = r.2.slowPeriod
      ∧ (stepAnswered ph r).account = r.2.account ∧ (stepAnswered ph r).drive = r.2.drive
      ∧ (stepAnswered ph r).adm = r.2.adm ∧ (stepAnswered ph r).tanks = r.2.tanks
      ∧ (stepAnswered ph r).water = r.2.water ∧ (stepAnswered ph r).heater = r.2.heater
      ∧ (stepAnswered ph r).frost = r.2.frost ∧ (stepAnswered ph r).motion = r.2.motion
      ∧ (stepAnswered ph r).light = r.2.light ∧ (stepAnswered ph r).links = r.2.links
      ∧ (stepAnswered ph r).restarting = r.2.restarting ∧ (stepAnswered ph r).sleep = r.2.sleep
      ∧ (stepAnswered ph r).pending = r.2.pending := by
  generalize h : (stepAnswered ph r) = t
  unfold stepAnswered at h
  try dsimp only at h
  (repeat' split at h) <;> (subst h; simp)

@[simp] theorem presentStep_frame (caller : PortId) (k : RStep) (s : State) :
    (presentStep caller k s).powered = s.powered ∧ (presentStep caller k s).store = s.store
      ∧ (presentStep caller k s).defaulted = s.defaulted ∧ (presentStep caller k s).saving = s.saving
      ∧ (presentStep caller k s).slowPeriod = s.slowPeriod ∧ (presentStep caller k s).account = s.account
      ∧ (presentStep caller k s).drive = s.drive ∧ (presentStep caller k s).tanks = s.tanks
      ∧ (presentStep caller k s).links = s.links ∧ (presentStep caller k s).restarting = s.restarting
      ∧ (presentStep caller k s).sleep = s.sleep ∧ (presentStep caller k s).pending = s.pending := by
  generalize h : (presentStep caller k s) = t
  unfold presentStep at h
  try dsimp only at h
  (repeat' split at h) <;> (subst h; simp)

@[simp] theorem presentDue_frame (s : State) :
    (presentDue s).powered = s.powered ∧ (presentDue s).store = s.store ∧ (presentDue s).defaulted = s.defaulted
      ∧ (presentDue s).saving = s.saving ∧ (presentDue s).slowPeriod = s.slowPeriod
      ∧ (presentDue s).account = s.account ∧ (presentDue s).drive = s.drive ∧ (presentDue s).tanks = s.tanks
      ∧ (presentDue s).links = s.links ∧ (presentDue s).restarting = s.restarting
      ∧ (presentDue s).sleep = s.sleep ∧ (presentDue s).pending = s.pending := by
  generalize h : (presentDue s) = t
  unfold presentDue at h
  try dsimp only at h
  (repeat' split at h) <;> (subst h; simp)

@[simp] theorem motionEnded_frame (res : MotionResult) (s : State) :
    (motionEnded res s).powered = s.powered ∧ (motionEnded res s).settings = s.settings
      ∧ (motionEnded res s).store = s.store ∧ (motionEnded res s).defaulted = s.defaulted
      ∧ (motionEnded res s).saving = s.saving ∧ (motionEnded res s).slowPeriod = s.slowPeriod
      ∧ (motionEnded res s).account = s.account ∧ (motionEnded res s).drive = s.drive
      ∧ (motionEnded res s).adm = s.adm ∧ (motionEnded res s).tanks = s.tanks
      ∧ (motionEnded res s).water = s.water ∧ (motionEnded res s).heater = s.heater
      ∧ (motionEnded res s).frost = s.frost ∧ (motionEnded res s).motion = s.motion
      ∧ (motionEnded res s).light = s.light ∧ (motionEnded res s).links = s.links
      ∧ (motionEnded res s).restarting = s.restarting ∧ (motionEnded res s).sleep = s.sleep
      ∧ (motionEnded res s).pending = s.pending := by
  generalize h : (motionEnded res s) = t
  unfold motionEnded at h
  try dsimp only at h
  (repeat' split at h) <;> (subst h; simp)

@[simp] theorem handGrant_frame (g : GrantChange) (s : State) :
    (handGrant g s).powered = s.powered ∧ (handGrant g s).settings = s.settings
      ∧ (handGrant g s).store = s.store ∧ (handGrant g s).defaulted = s.defaulted
      ∧ (handGrant g s).saving = s.saving ∧ (handGrant g s).slowPeriod = s.slowPeriod
      ∧ (handGrant g s).account = s.account ∧ (handGrant g s).drive = s.drive ∧ (handGrant g s).tanks = s.tanks
      ∧ (handGrant g s).links = s.links ∧ (handGrant g s).restarting = s.restarting
      ∧ (handGrant g s).sleep = s.sleep ∧ (handGrant g s).pending = s.pending := by
  generalize h : (handGrant g s) = t
  unfold handGrant at h
  try dsimp only at h
  (repeat' split at h) <;> (subst h; simp)

@[simp] theorem callRequest_frame (p : PortId) (n : Nat) (s : State) :
    (callRequest p n s).2.powered = s.powered ∧ (callRequest p n s).2.settings = s.settings
      ∧ (callRequest p n s).2.store = s.store ∧ (callRequest p n s).2.defaulted = s.defaulted
      ∧ (callRequest p n s).2.saving = s.saving ∧ (callRequest p n s).2.slowPeriod = s.slowPeriod
      ∧ (callRequest p n s).2.account = s.account ∧ (callRequest p n s).2.drive = s.drive
      ∧ (callRequest p n s).2.adm = s.adm ∧ (callRequest p n s).2.tanks = s.tanks
      ∧ (callRequest p n s).2.water = s.water ∧ (callRequest p n s).2.heater = s.heater
      ∧ (callRequest p n s).2.frost = s.frost ∧ (callRequest p n s).2.motion = s.motion
      ∧ (callRequest p n s).2.light = s.light ∧ (callRequest p n s).2.ports = s.ports
      ∧ (callRequest p n s).2.restarting = s.restarting ∧ (callRequest p n s).2.sleep = s.sleep
      ∧ (callRequest p n s).2.pending = s.pending ∧ (callRequest p n s).2.links = s.links := by
  generalize h : (callRequest p n s) = t
  unfold callRequest at h
  try dsimp only at h
  (repeat' split at h) <;> (subst h; simp)

@[simp] theorem withdrawRequest_frame (p : PortId) (s : State) :
    (withdrawRequest p s).2.powered = s.powered ∧ (withdrawRequest p s).2.settings = s.settings
      ∧ (withdrawRequest p s).2.store = s.store ∧ (withdrawRequest p s).2.defaulted = s.defaulted
      ∧ (withdrawRequest p s).2.saving = s.saving ∧ (withdrawRequest p s).2.slowPeriod = s.slowPeriod
      ∧ (withdrawRequest p s).2.account = s.account ∧ (withdrawRequest p s).2.drive = s.drive
      ∧ (withdrawRequest p s).2.adm = s.adm ∧ (withdrawRequest p s).2.tanks = s.tanks
      ∧ (withdrawRequest p s).2.water = s.water ∧ (withdrawRequest p s).2.heater = s.heater
      ∧ (withdrawRequest p s).2.frost = s.frost ∧ (withdrawRequest p s).2.motion = s.motion
      ∧ (withdrawRequest p s).2.light = s.light ∧ (withdrawRequest p s).2.ports = s.ports
      ∧ (withdrawRequest p s).2.restarting = s.restarting ∧ (withdrawRequest p s).2.sleep = s.sleep
      ∧ (withdrawRequest p s).2.pending = s.pending ∧ (withdrawRequest p s).2.links = s.links := by
  generalize h : (withdrawRequest p s) = t
  unfold withdrawRequest at h
  try dsimp only at h
  (repeat' split at h) <;> (subst h; simp)

@[simp] theorem abortStep_frame (ph : RunPhase) (s : State) :
    (abortStep ph s).powered = s.powered ∧ (abortStep ph s).settings = s.settings
      ∧ (abortStep ph s).store = s.store ∧ (abortStep ph s).defaulted = s.defaulted
      ∧ (abortStep ph s).saving = s.saving ∧ (abortStep ph s).slowPeriod = s.slowPeriod
      ∧ (abortStep ph s).account = s.account ∧ (abortStep ph s).drive = s.drive
      ∧ (abortStep ph s).tanks = s.tanks ∧ (abortStep ph s).water = s.water ∧ (abortStep ph s).heater = s.heater
      ∧ (abortStep ph s).frost = s.frost ∧ (abortStep ph s).light = s.light ∧ (abortStep ph s).links = s.links
      ∧ (abortStep ph s).restarting = s.restarting ∧ (abortStep ph s).sleep = s.sleep
      ∧ (abortStep ph s).pending = s.pending := by
  generalize h : (abortStep ph s) = t
  unfold abortStep at h
  try dsimp only at h
  (repeat' split at h) <;> (subst h; simp)

@[simp] theorem cancelRequest_frame (p : PortId) (s : State) :
    (cancelRequest p s).2.powered = s.powered ∧ (cancelRequest p s).2.settings = s.settings
      ∧ (cancelRequest p s).2.store = s.store ∧ (cancelRequest p s).2.defaulted = s.defaulted
      ∧ (cancelRequest p s).2.saving = s.saving ∧ (cancelRequest p s).2.slowPeriod = s.slowPeriod
      ∧ (cancelRequest p s).2.account = s.account ∧ (cancelRequest p s).2.drive = s.drive
      ∧ (cancelRequest p s).2.tanks = s.tanks ∧ (cancelRequest p s).2.water = s.water
      ∧ (cancelRequest p s).2.heater = s.heater ∧ (cancelRequest p s).2.frost = s.frost
      ∧ (cancelRequest p s).2.light = s.light ∧ (cancelRequest p s).2.links = s.links
      ∧ (cancelRequest p s).2.restarting = s.restarting ∧ (cancelRequest p s).2.sleep = s.sleep
      ∧ (cancelRequest p s).2.pending = s.pending := by
  generalize h : (cancelRequest p s) = t
  unfold cancelRequest at h
  try dsimp only at h
  (repeat' split at h) <;> (subst h; simp)

@[simp] theorem runnerPortReset_frame (p : PortId) (s : State) :
    (runnerPortReset p s).powered = s.powered ∧ (runnerPortReset p s).settings = s.settings
      ∧ (runnerPortReset p s).store = s.store ∧ (runnerPortReset p s).defaulted = s.defaulted
      ∧ (runnerPortReset p s).saving = s.saving ∧ (runnerPortReset p s).slowPeriod = s.slowPeriod
      ∧ (runnerPortReset p s).account = s.account ∧ (runnerPortReset p s).drive = s.drive
      ∧ (runnerPortReset p s).adm = s.adm ∧ (runnerPortReset p s).tanks = s.tanks
      ∧ (runnerPortReset p s).water = s.water ∧ (runnerPortReset p s).heater = s.heater
      ∧ (runnerPortReset p s).frost = s.frost ∧ (runnerPortReset p s).motion = s.motion
      ∧ (runnerPortReset p s).light = s.light ∧ (runnerPortReset p s).ports = s.ports
      ∧ (runnerPortReset p s).restarting = s.restarting ∧ (runnerPortReset p s).sleep = s.sleep
      ∧ (runnerPortReset p s).pending = s.pending ∧ (runnerPortReset p s).links = s.links := by
  generalize h : (runnerPortReset p s) = t
  unfold runnerPortReset at h
  try dsimp only at h
  (repeat' split at h) <;> (subst h; simp)

@[simp] theorem waitReached_frame (s : State) :
    (waitReached s).powered = s.powered ∧ (waitReached s).settings = s.settings
      ∧ (waitReached s).store = s.store ∧ (waitReached s).defaulted = s.defaulted
      ∧ (waitReached s).saving = s.saving ∧ (waitReached s).slowPeriod = s.slowPeriod
      ∧ (waitReached s).account = s.account ∧ (waitReached s).drive = s.drive ∧ (waitReached s).adm = s.adm
      ∧ (waitReached s).tanks = s.tanks ∧ (waitReached s).water = s.water ∧ (waitReached s).heater = s.heater
      ∧ (waitReached s).frost = s.frost ∧ (waitReached s).motion = s.motion ∧ (waitReached s).light = s.light
      ∧ (waitReached s).links = s.links ∧ (waitReached s).restarting = s.restarting
      ∧ (waitReached s).sleep = s.sleep ∧ (waitReached s).pending = s.pending := by
  generalize h : (waitReached s) = t
  unfold waitReached at h
  try dsimp only at h
  (repeat' split at h) <;> (subst h; simp)

@[simp] theorem runnerRestart_frame (s : State) :
    (runnerRestart s).powered = s.powered ∧ (runnerRestart s).settings = s.settings
      ∧ (runnerRestart s).store = s.store ∧ (runnerRestart s).defaulted = s.defaulted
      ∧ (runnerRestart s).saving = s.saving ∧ (runnerRestart s).slowPeriod = s.slowPeriod
      ∧ (runnerRestart s).account = s.account ∧ (runnerRestart s).drive = s.drive
      ∧ (runnerRestart s).adm = s.adm ∧ (runnerRestart s).tanks = s.tanks ∧ (runnerRestart s).water = s.water
      ∧ (runnerRestart s).heater = s.heater ∧ (runnerRestart s).frost = s.frost
      ∧ (runnerRestart s).motion = s.motion ∧ (runnerRestart s).light = s.light
      ∧ (runnerRestart s).links = s.links ∧ (runnerRestart s).restarting = s.restarting
      ∧ (runnerRestart s).sleep = s.sleep ∧ (runnerRestart s).pending = s.pending := by
  generalize h : (runnerRestart s) = t
  unfold runnerRestart at h
  try dsimp only at h
  (repeat' split at h) <;> (subst h; simp)

/-- Handing on touches the owners' blocks and the sleep state alone: no account, drive side, tank, store or link. -/
@[simp] theorem handOn_frame (n : Nat) (s : State) :
    (handOn n s).powered = s.powered ∧ (handOn n s).store = s.store ∧ (handOn n s).defaulted = s.defaulted
      ∧ (handOn n s).saving = s.saving ∧ (handOn n s).slowPeriod = s.slowPeriod
      ∧ (handOn n s).account = s.account ∧ (handOn n s).drive = s.drive ∧ (handOn n s).tanks = s.tanks
      ∧ (handOn n s).links = s.links ∧ (handOn n s).restarting = s.restarting
      ∧ (handOn n s).pending = s.pending := by
  induction n generalizing s with
  | zero => simp [handOn]
  | succ n ih =>
    unfold handOn
    split
    · simp [ih]
    · split
      · simp [ih]
      · split <;> simp [ih]

@[simp] theorem settle_frame (s : State) :
    (settle s).powered = s.powered ∧ (settle s).store = s.store ∧ (settle s).defaulted = s.defaulted
      ∧ (settle s).saving = s.saving ∧ (settle s).slowPeriod = s.slowPeriod ∧ (settle s).account = s.account
      ∧ (settle s).drive = s.drive ∧ (settle s).tanks = s.tanks ∧ (settle s).links = s.links
      ∧ (settle s).restarting = s.restarting ∧ (settle s).pending = s.pending := by
  simp [settle]

/-- With nothing to hand on, handing on changes nothing. -/
theorem handOn_settled (n : Nat) (s : State) (hc : s.adm.changes = []) (hh : s.runner.handed = none)
    (hd : s.runner.due = false) : handOn n s = s := by
  cases n with
  | zero => rfl
  | succ n => simp [handOn, hc, hh, hd]

/-- With nothing to hand on, an act is settled by the judging of the sleep conditions. -/
theorem settle_settled (s : State) (hc : s.adm.changes = []) (hh : s.runner.handed = none)
    (hd : s.runner.due = false) : settle s = judgeSleep s := by
  unfold settle
  exact handOn_settled _ _ (by simpa using hc) (by simpa using hh) (by simpa using hd)

end Sys2Proof.Machine
end

