-- ==== Sys2Proof/Laws/Sleep.lean ====
section
/-! SUPPORT. What judging the sleep conditions does, said once: it changes the sleep block and the frame timer alone (`slept`),
judging twice is judging once, and the owners' operations commute with it, so that an event's judgements fall together
into the one that closes it. -/

namespace Sys2Proof.Machine

/-! ### The sleep block and the frame timer replaced -/

/-- The state with another sleep block and another frame timer. -/
def State.slept (s : State) (x : Sleep) (n : Nat) : State :=
  { s with sleep := x, light := { s.light with frameTimer := n } }

section
variable (s : State) (x y : Sleep) (n m : Nat)

@[simp] theorem State.slept_powered : (s.slept x n).powered = s.powered := rfl
@[simp] theorem State.slept_settings : (s.slept x n).settings = s.settings := rfl
@[simp] theorem State.slept_store : (s.slept x n).store = s.store := rfl
@[simp] theorem State.slept_defaulted : (s.slept x n).defaulted = s.defaulted := rfl
@[simp] theorem State.slept_saving : (s.slept x n).saving = s.saving := rfl
@[simp] theorem State.slept_slowPeriod : (s.slept x n).slowPeriod = s.slowPeriod := rfl
@[simp] theorem State.slept_account : (s.slept x n).account = s.account := rfl
@[simp] theorem State.slept_drive : (s.slept x n).drive = s.drive := rfl
@[simp] theorem State.slept_adm : (s.slept x n).adm = s.adm := rfl
@[simp] theorem State.slept_tanks : (s.slept x n).tanks = s.tanks := rfl
@[simp] theorem State.slept_water : (s.slept x n).water = s.water := rfl
@[simp] theorem State.slept_heater : (s.slept x n).heater = s.heater := rfl
@[simp] theorem State.slept_frost : (s.slept x n).frost = s.frost := rfl
@[simp] theorem State.slept_motion : (s.slept x n).motion = s.motion := rfl
@[simp] theorem State.slept_light : (s.slept x n).light = { s.light with frameTimer := n } := rfl
@[simp] theorem State.slept_runner : (s.slept x n).runner = s.runner := rfl
@[simp] theorem State.slept_ports : (s.slept x n).ports = s.ports := rfl
@[simp] theorem State.slept_restarting : (s.slept x n).restarting = s.restarting := rfl
@[simp] theorem State.slept_sleep : (s.slept x n).sleep = x := rfl
@[simp] theorem State.slept_pending : (s.slept x n).pending = s.pending := rfl
@[simp] theorem State.slept_links : (s.slept x n).links = s.links := rfl
@[simp] theorem State.slept_motionRec (a : Actuator) : (s.slept x n).motionRec a = s.motionRec a := rfl
@[simp] theorem State.slept_slept : (s.slept x n).slept y m = s.slept y m := rfl
@[simp] theorem State.slept_same : s.slept s.sleep s.light.frameTimer = s := rfl

@[simp] theorem State.slept_withSettings (v : Settings) : (s.slept x n).withSettings v = (s.withSettings v).slept x n := rfl
@[simp] theorem State.slept_withAccount (v : Account) : (s.slept x n).withAccount v = (s.withAccount v).slept x n := rfl
@[simp] theorem State.slept_withDrive (v : DriveSide) : (s.slept x n).withDrive v = (s.withDrive v).slept x n := rfl
@[simp] theorem State.slept_withAdm (v : Adm) : (s.slept x n).withAdm v = (s.withAdm v).slept x n := rfl
@[simp] theorem State.slept_withTanks (v : PerTank TankRec) : (s.slept x n).withTanks v = (s.withTanks v).slept x n := rfl
@[simp] theorem State.slept_withWater (v : Water) : (s.slept x n).withWater v = (s.withWater v).slept x n := rfl
@[simp] theorem State.slept_withHeater (v : Heater) : (s.slept x n).withHeater v = (s.withHeater v).slept x n := rfl
@[simp] theorem State.slept_withFrost (v : Frost) : (s.slept x n).withFrost v = (s.withFrost v).slept x n := rfl
@[simp] theorem State.slept_withMotion (v : Motion) : (s.slept x n).withMotion v = (s.withMotion v).slept x n := rfl
@[simp] theorem State.slept_withRunner (v : Runner) : (s.slept x n).withRunner v = (s.withRunner v).slept x n := rfl
@[simp] theorem State.slept_withPorts (v : PerPort Port) : (s.slept x n).withPorts v = (s.withPorts v).slept x n := rfl
@[simp] theorem State.slept_setPort (p : PortId) (v : Port) : (s.slept x n).setPort p v = (s.setPort p v).slept x n := rfl
@[simp] theorem State.slept_setRec (a : Actuator) (v : MotionRec) : (s.slept x n).setRec a v = (s.setRec a v).slept x n := rfl
@[simp] theorem State.slept_setTank (t : TankId) (v : TankRec) : (s.slept x n).setTank t v = (s.setTank t v).slept x n := rfl
theorem State.slept_withLight (v : Light) :
    (s.slept x n).withLight { v with frameTimer := n } = (s.withLight v).slept x n := rfl

@[simp] theorem raise_slept (k : NoticeKind) (c : RecClass) (i : Nat) :
    raise k c i (s.slept x n) = (raise k c i s).slept x n := rfl

end

/-! ### The owners' operations -/

section
variable (s : State) (x : Sleep) (n : Nat)

@[simp] theorem request_slept (e : Fin 20) (c : LoadClass) (r : Nat) :
    request e c r (s.slept x n) = (request e c r s).slept x n := rfl
@[simp] theorem release_slept (e : Fin 20) : release e (s.slept x n) = (release e s).slept x n := rfl
@[simp] theorem loadSet_slept (e sw : Nat) :
    loadSet e sw (s.slept x n) = ((loadSet e sw s).1, (loadSet e sw s).2.slept x n) := by
  by_cases h1 : e < 20
  · by_cases h2 : s.adm.entries[(⟨e, h1⟩ : Fin 20)].state = .off <;> simp only [loadSet, h1, dite_true] <;>
      (repeat' split) <;> simp_all [-Fin.getElem_fin]
  · simp [loadSet, h1]
@[simp] theorem pumpAsk_slept : pumpAsk (s.slept x n) = (pumpAsk s).slept x n := rfl
@[simp] theorem pumpReady_slept : pumpReady (s.slept x n) = (pumpReady s).slept x n := by
  unfold pumpReady; (repeat' split) <;> simp_all
@[simp] theorem pumpStop_slept (d : PumpState) (l : LockCause) :
    pumpStop d l (s.slept x n) = (pumpStop d l s).slept x n := by
  unfold pumpStop; (repeat' split) <;> simp_all
@[simp] theorem pumpSwitch_slept (sw : Nat) :
    pumpSwitch sw (s.slept x n) = ((pumpSwitch sw s).1, (pumpSwitch sw s).2.slept x n) := by
  unfold pumpSwitch; (repeat' split) <;> simp_all
@[simp] theorem pumpGrant_slept (c : Cause) : pumpGrant c (s.slept x n) = (pumpGrant c s).slept x n := by
  unfold pumpGrant; (repeat' split) <;> simp_all
@[simp] theorem pumpDrainOpened_slept : pumpDrainOpened (s.slept x n) = (pumpDrainOpened s).slept x n := by
  unfold pumpDrainOpened; simp
@[simp] theorem openDrain_slept (r : DrainReason) : openDrain r (s.slept x n) = (openDrain r s).slept x n := by
  unfold openDrain; simp
@[simp] theorem frostRelease_slept : frostRelease (s.slept x n) = (frostRelease s).slept x n := by
  have h : releaseReason (s.slept x n) = releaseReason s := rfl
  unfold frostRelease; rw [h]; split <;> simp
@[simp] theorem openDrainRequest_slept :
    openDrainRequest (s.slept x n) = ((openDrainRequest s).1, (openDrainRequest s).2.slept x n) := by
  unfold openDrainRequest; (repeat' split) <;> simp_all
@[simp] theorem enterState_slept (h : HeaterState) : enterState h (s.slept x n) = (enterState h s).slept x n := rfl
@[simp] theorem startHeater_slept : startHeater (s.slept x n) = (startHeater s).slept x n := by
  unfold startHeater; simp
@[simp] theorem purge_slept (r : PurgeReason) : purge r (s.slept x n) = (purge r s).slept x n := by
  unfold purge; simp
@[simp] theorem restHeater_slept (h : HeaterState) : restHeater h (s.slept x n) = (restHeater h s).slept x n := by
  unfold restHeater; simp
@[simp] theorem setMode_slept (m : HeatMode) : setMode m (s.slept x n) = (setMode m s).slept x n := by
  unfold setMode; (repeat' split) <;> simp_all
@[simp] theorem takeSetpoint_slept (t : Int) : takeSetpoint t (s.slept x n) = (takeSetpoint t s).slept x n := rfl
@[simp] theorem heatRequest_slept (m : Nat) (t : Int) :
    heatRequest m t (s.slept x n) = ((heatRequest m t s).1, (heatRequest m t s).2.slept x n) := by
  unfold heatRequest; (repeat' split) <;> simp_all
@[simp] theorem lvdStop_slept : lvdStop (s.slept x n) = (lvdStop s).slept x n := by
  have h : idleMode (s.slept x n) = idleMode s := rfl
  unfold lvdStop; simp [h]
@[simp] theorem glowGrant_slept (c : Cause) : glowGrant c (s.slept x n) = (glowGrant c s).slept x n := by
  unfold glowGrant; (repeat' split) <;> simp_all
@[simp] theorem fanGrant_slept (c : Cause) : fanGrant c (s.slept x n) = (fanGrant c s).slept x n := by
  cases c <;> cases h : s.heater.state <;> simp [fanGrant, h]
@[simp] theorem handEnd_slept (w : Option Requester) (r : MotionResult) :
    handEnd w r (s.slept x n) = (handEnd w r s).slept x n := by
  unfold handEnd; (repeat' split) <;> simp_all
@[simp] theorem restRecord_slept (a : Actuator) (act : Activity) (k : FaultKind) (r : MotionResult) :
    restRecord a act k r (s.slept x n) = (restRecord a act k r s).slept x n := by
  by_cases h : s.motion.holder = some a <;> by_cases hw : s.motion.waiter = some a <;> simp [restRecord, h, hw]
@[simp] theorem runMotor_slept (a : Actuator) : runMotor a (s.slept x n) = (runMotor a s).slept x n := rfl
theorem holdDriver_slept (a : Actuator) (last : State → State)
    (h : ∀ t : State, last (t.slept x n) = (last t).slept x n) :
    holdDriver a last (s.slept x n) = (holdDriver a last s).slept x n := by
  cases hd : (s.motionRec a).direction with
  | none => simp [holdDriver, hd]
  | some d =>
    by_cases he : (s.motionRec a).atEnd d = true
    · simp [holdDriver, hd, he, h]
    · cases d <;> simp [holdDriver, hd, he]
@[simp] theorem passDriver_slept : passDriver (s.slept x n) = (passDriver s).slept x n := by
  unfold passDriver
  simp only [State.slept_motion, State.slept_withMotion]
  split
  · exact holdDriver_slept _ _ _ _ _ fun _ => rfl
  · rfl
@[simp] theorem endMotion_slept (a : Actuator) (act : Activity) (k : FaultKind) (r : MotionResult) :
    endMotion a act k r (s.slept x n) = (endMotion a act k r s).slept x n := by
  unfold endMotion; simp
@[simp] theorem stopRecord_slept (a : Actuator) (r : MotionResult) :
    stopRecord a r (s.slept x n) = (stopRecord a r s).slept x n := by
  unfold stopRecord; (repeat' split) <;> simp_all
@[simp] theorem startMotion_slept (a : Actuator) (d : Direction) (q : Requester) :
    startMotion a d q (s.slept x n) = (startMotion a d q s).slept x n := by
  unfold startMotion
  simp only [State.slept_motion, State.slept_motionRec, State.slept_setRec, State.slept_settings, State.slept_withMotion]
  split
  · exact holdDriver_slept _ _ _ _ _ fun t => passDriver_slept t x n
  · rfl
@[simp] theorem replaceRequester_slept (a : Actuator) (q : Requester) (r : MotionResult) :
    replaceRequester a q r (s.slept x n) = (replaceRequester a q r s).slept x n := by
  unfold replaceRequester; (repeat' split) <;> simp_all
theorem turnHolder_slept (a : Actuator) (d : Direction) (go : State → State)
    (h : ∀ t : State, go (t.slept x n) = (go t).slept x n) :
    turnHolder a d go (s.slept x n) = (turnHolder a d go s).slept x n := by
  have key : ∀ t : State, (if ((t.slept x n).motionRec a).atEnd d then endMotion a .idle .none .done (t.slept x n)
      else go (t.slept x n)) = (if (t.motionRec a).atEnd d then endMotion a .idle .none .done t else go t).slept x n := by
    intro t
    by_cases he : (t.motionRec a).atEnd d = true <;> simp [he, h]
  exact key (s.setRec a { s.motionRec a with
    direction := some d, travel := 0, stallTimer := 0, surge := false, grantWait := 0, reversal := 0
    limit := (s.settings.motion a).travelLimit })
@[simp] theorem reverseMotion_slept (a : Actuator) (d : Direction) :
    reverseMotion a d (s.slept x n) = (reverseMotion a d s).slept x n := by
  unfold reverseMotion; exact turnHolder_slept _ _ _ _ _ _ fun t => rfl
@[simp] theorem turnWaiting_slept (a : Actuator) : turnWaiting a (s.slept x n) = (turnWaiting a s).slept x n := by
  unfold turnWaiting; exact turnHolder_slept _ _ _ _ _ _ fun t => rfl
@[simp] theorem moveInFlight_slept (a : Actuator) (d : Direction) (q : Requester) :
    moveInFlight a d q (s.slept x n) = ((moveInFlight a d q s).1, (moveInFlight a d q s).2.slept x n) := by
  by_cases hd : (s.motionRec a).direction = some d
  · simp [moveInFlight, hd]
  · cases ha : (s.motionRec a).activity <;> simp [moveInFlight, hd, ha]
@[simp] theorem moveTaken_slept (a : Actuator) (d : Direction) (rem : Bool) (q : Requester) :
    moveTaken a d rem q (s.slept x n) = ((moveTaken a d rem q s).1, (moveTaken a d rem q s).2.slept x n) := by
  unfold moveTaken
  simp only [State.slept_motionRec, State.slept_drive]
  by_cases h1 : (s.motionRec a).activity = .fault <;> by_cases h2 : s.drive.state = .parked <;>
    by_cases h3 : (s.motionRec a).activity = .idle <;> by_cases h4 : (s.motionRec a).atEnd d = true <;>
    cases d <;> cases rem <;> simp [h1, h2, h3, h4]
@[simp] theorem motorGrant_slept (c : Cause) : motorGrant c (s.slept x n) = (motorGrant c s).slept x n := by
  cases hh : s.motion.holder with
  | none => simp [motorGrant, hh]
  | some a =>
    cases c with
    | granted =>
      by_cases hg : s.adm.isGranted motorEntry = true
      · cases ha : (s.motionRec a).activity <;> simp [motorGrant, hh, hg, ha]
      · simp [motorGrant, hh, hg]
    | shed =>
      by_cases hd : ((s.motionRec a).deploying
        && ((s.motionRec a).activity == .moving || (s.motionRec a).activity == .reversing)) = true
      · simp only [motorGrant, hh, State.slept_motion, State.slept_motionRec, hd, if_true, stopRecord_slept]
      · simp only [motorGrant, hh, State.slept_motion, State.slept_motionRec, hd]; rfl
    | lvd =>
      by_cases hd : ((s.motionRec a).deploying
        && ((s.motionRec a).activity == .moving || (s.motionRec a).activity == .reversing)) = true
      · simp only [motorGrant, hh, State.slept_motion, State.slept_motionRec, hd, if_true, stopRecord_slept]
      · simp only [motorGrant, hh, State.slept_motion, State.slept_motionRec, hd]; rfl
    | cut => simp [motorGrant, hh]
    | part => simp [motorGrant, hh]
@[simp] theorem askLight_slept (f d : Nat) : askLight f d (s.slept x n) = (askLight f d s).slept x n := by
  unfold askLight; dsimp only [State.slept_light]; (repeat' split) <;> rfl
@[simp] theorem lightDemand_slept : lightDemand (s.slept x n) = (lightDemand s).slept x n :=
  askLight_slept s x n s.light.floor s.light.demand
@[simp] theorem lightGrant_slept (g : GrantChange) : lightGrant g (s.slept x n) = (lightGrant g s).slept x n := rfl
@[simp] theorem sceneRequest_slept (k sc : Nat) :
    sceneRequest k sc (s.slept x n) = ((sceneRequest k sc s).1, (sceneRequest k sc s).2.slept x n) := by
  have h : ∀ c sc, lightDemand ((s.slept x n).withLight (recallScene c sc (s.slept x n).light))
      = (lightDemand (s.withLight (recallScene c sc s.light))).slept x n :=
    fun c sc => lightDemand_slept (s.withLight (recallScene c sc s.light)) x n
  unfold sceneRequest
  simp only [h, State.slept_settings]
  (repeat' split) <;> simp
@[simp] theorem startRun_slept (c : Call) : startRun c (s.slept x n) = (startRun c s).slept x n := rfl
@[simp] theorem startPending_slept : startPending (s.slept x n) = (startPending s).slept x n := by
  unfold startPending; simp only [State.slept_runner]; split <;> rfl
@[simp] theorem endRun_slept (k : EndKind) (w : EndReason) : endRun k w (s.slept x n) = (endRun k w s).slept x n := by
  unfold endRun; simp only [State.slept_runner]; split
  · rfl
  · simp
@[simp] theorem completeStep_slept : completeStep (s.slept x n) = (completeStep s).slept x n := by
  cases hr : s.runner.run with
  | none => simp [completeStep, hr]
  | some r =>
    by_cases h : r.step < (routineSteps s.settings r.call.routine).length <;> simp [completeStep, hr, h]
@[simp] theorem waitStep_slept (ph : RunPhase) : waitStep ph (s.slept x n) = (waitStep ph s).slept x n := by
  unfold waitStep; simp only [State.slept_runner]; split <;> rfl
@[simp] theorem stepAnswered_slept (ph : RunPhase) (st : Status) :
    stepAnswered ph (st, s.slept x n) = (stepAnswered ph (st, s)).slept x n := by
  unfold stepAnswered; cases st <;> simp
@[simp] theorem presentStep_slept (c : PortId) (k : RStep) :
    presentStep c k (s.slept x n) = (presentStep c k s).slept x n := by
  cases k <;> simp [presentStep]
  split <;> simp
@[simp] theorem presentDue_slept : presentDue (s.slept x n) = (presentDue s).slept x n := by
  unfold presentDue; simp only [State.slept_runner, State.slept_settings, State.slept_withRunner]
  (repeat' split) <;> simp
@[simp] theorem motionEnded_slept (r : MotionResult) : motionEnded r (s.slept x n) = (motionEnded r s).slept x n := by
  unfold motionEnded; simp only [State.slept_runner]; (repeat' split) <;> simp
@[simp] theorem handGrant_slept (g : GrantChange) : handGrant g (s.slept x n) = (handGrant g s).slept x n := by
  unfold handGrant; (repeat' split) <;> simp

end

/-! ### Judging -/

@[simp] theorem sleepReady_slept (s : State) (x : Sleep) (n : Nat) : sleepReady (s.slept x n) = sleepReady s := rfl

/-- The sleep block and the frame timer that the judging leaves where the conditions hold or fail, from those it finds. -/
def judgedFrom (ready : Bool) (x : Sleep) (n : Nat) : Sleep × Nat :=
  if ready then
    match x.state with
    | .awake => ({ x with state := .sleepPending, idle := 0 }, n)
    | .sleepPending => (x, n)
    | .parkedSleep => (x, n)
  else
    ({ state := .awake, idle := 0, quietMark := false }, match x.state with
      | .awake => n
      | .sleepPending => n
      | .parkedSleep => 0)

/-- What the judging does, whatever the state: the sleep block and the frame timer alone change (R187, R189, R190). -/
theorem judgeSleep_eq (s : State) :
    judgeSleep s = s.slept (judgedFrom (sleepReady s) s.sleep s.light.frameTimer).1
      (judgedFrom (sleepReady s) s.sleep s.light.frameTimer).2 := by
  unfold judgeSleep conditionFails judgedFrom
  cases hr : sleepReady s <;> cases hs : s.sleep.state <;> simp [hr] <;> rfl

@[simp] theorem sleepReady_judgeSleep (s : State) : sleepReady (judgeSleep s) = sleepReady s := by
  rw [judgeSleep_eq]; rfl

/-- Judging twice is judging once. -/
@[simp] theorem judgeSleep_judgeSleep (s : State) : judgeSleep (judgeSleep s) = judgeSleep s := by
  rw [judgeSleep_eq s, judgeSleep_eq (State.slept _ _ _)]
  simp only [sleepReady_slept, State.slept_sleep, State.slept_light, State.slept_slept]
  cases hr : sleepReady s <;> cases hs : s.sleep.state <;> simp [judgedFrom, hs]

/-- Where the sleep block agrees with the conditions, judging changes nothing. -/
theorem judgeSleep_of_judged (s : State) (h : s.judged = true) : judgeSleep s = s := by
  rw [judgeSleep_eq]
  unfold State.judged at h
  have key : judgedFrom (sleepReady s) s.sleep s.light.frameTimer = (s.sleep, s.light.frameTimer) := by
    cases hr : sleepReady s
    · rw [hr] at h
      have : s.sleep = { state := .awake, idle := 0, quietMark := false } := by simpa using h
      rw [this]; rfl
    · rw [hr] at h
      cases hs : s.sleep.state <;> simp [hs] at h <;> simp [judgedFrom, hs]
  rw [key]; exact State.slept_same s

/-- Judging leaves the sleep block in agreement with the conditions. -/
theorem judgeSleep_judged (s : State) : (judgeSleep s).judged = true := by
  unfold State.judged
  rw [sleepReady_judgeSleep, judgeSleep_eq]
  cases hr : sleepReady s <;> cases hs : s.sleep.state <;> simp [judgedFrom, hs]

/-- An operation that commutes with another sleep block leaves the sleep block and the frame timer. -/
theorem sleep_of_slept (f : State → State) (hf : ∀ t x n, f (State.slept t x n) = (f t).slept x n) (s : State) :
    (f s).sleep = s.sleep ∧ (f s).light.frameTimer = s.light.frameTimer := by
  have := hf s s.sleep s.light.frameTimer
  rw [State.slept_same] at this
  rw [this]
  exact ⟨rfl, rfl⟩

/-- An act that leaves the sleep block may be judged before it as well as after, unless it makes failing conditions hold in a
part that the judging before it would have found otherwise than AWAKE. -/
theorem judgeSleep_act (f : State → State) (hf : ∀ t x n, f (State.slept t x n) = (f t).slept x n) (s : State)
    (h : sleepReady s = true ∨ sleepReady (f s) = false
      ∨ s.sleep = { state := .awake, idle := 0, quietMark := false }) :
    judgeSleep (f (judgeSleep s)) = judgeSleep (f s) := by
  obtain ⟨h1, h2⟩ := sleep_of_slept f hf s
  rw [judgeSleep_eq s, hf, judgeSleep_eq (f s), judgeSleep_eq (State.slept _ _ _)]
  simp only [sleepReady_slept, State.slept_sleep, State.slept_light, State.slept_slept, h1, h2]
  generalize s.light.frameTimer = n
  generalize s.sleep = x at *
  generalize sleepReady (f s) = b at *
  generalize sleepReady s = a at *
  obtain ⟨st, i, m⟩ := x
  cases a <;> cases b <;> cases st <;> simp_all [judgedFrom]

/-! ### What commutes with judging -/

@[simp] theorem judgeSleep_setPort (s : State) (p : PortId) (x : Port) :
    judgeSleep (s.setPort p x) = (judgeSleep s).setPort p x := by
  rw [judgeSleep_eq, judgeSleep_eq s]; rfl

@[simp] theorem judgeSleep_withPorts (s : State) (x : PerPort Port) :
    judgeSleep (s.withPorts x) = (judgeSleep s).withPorts x := by
  rw [judgeSleep_eq, judgeSleep_eq s]; rfl

@[simp] theorem transmitAll_judgeSleep (s : State) : transmitAll (judgeSleep s) = judgeSleep (transmitAll s) := by
  unfold transmitAll
  rw [judgeSleep_withPorts, (judgeSleep_frame s).2.2.2.2.2.2.2.2.2.2.2.2.2.2.2.1]

@[simp] theorem finishSlot_judgeSleep (p : PortId) (x : TxFrame) (s : State) :
    finishSlot p x (judgeSleep s) = judgeSleep (finishSlot p x s) := by
  unfold finishSlot
  simp only [judgeSleep_setPort, judgeSleep_frame]

/-- An event's closing judges anew whatever its acts have had judged. -/
@[simp] theorem close_judgeSleep (s : State) : close (judgeSleep s) = close s := by
  simp [close]

theorem judgeSleep_withAdm_changes (s : State) (cs : List GrantChange) :
    judgeSleep (s.withAdm { s.adm with changes := cs }) = (judgeSleep s).withAdm { (judgeSleep s).adm with changes := cs } := by
  rw [judgeSleep_eq, judgeSleep_eq s]; rfl

end Sys2Proof.Machine
end

