-- ==== Sys2Proof/Laws/Links.lean ====
section
/-! SUPPORT. What an event leaves to the links does: with nothing to hand on and nothing to serve it only lets the
transmitters choose and the sleep conditions be judged; with one request to serve it serves that one. -/

namespace Sys2Proof.Machine

/-! ### The transmitters -/

@[simp] theorem Port.choose_slotA (x : Port) : x.choose.slotA = x.slotA := by
  unfold Port.choose; (repeat' split) <;> rfl
@[simp] theorem Port.choose_slotB (x : Port) : x.choose.slotB = x.slotB := by
  unfold Port.choose; (repeat' split) <;> rfl
@[simp] theorem Port.choose_attached (x : Port) : x.choose.attached = x.attached := by
  unfold Port.choose; (repeat' split) <;> rfl
@[simp] theorem Port.choose_subscription (x : Port) : x.choose.subscription = x.subscription := by
  unfold Port.choose; (repeat' split) <;> rfl
@[simp] theorem Port.choose_level (x : Port) : x.choose.level = x.level := by
  unfold Port.choose; (repeat' split) <;> rfl
@[simp] theorem Port.choose_line (x : Port) : x.choose.line = x.line := by
  unfold Port.choose; (repeat' split) <;> rfl
@[simp] theorem Port.choose_asm (x : Port) : x.choose.asm = x.asm := by
  unfold Port.choose; (repeat' split) <;> rfl
@[simp] theorem Port.choose_badFrames (x : Port) : x.choose.badFrames = x.badFrames := by
  unfold Port.choose; (repeat' split) <;> rfl
@[simp] theorem Port.choose_resyncs (x : Port) : x.choose.resyncs = x.resyncs := by
  unfold Port.choose; (repeat' split) <;> rfl
@[simp] theorem Port.choose_overruns (x : Port) : x.choose.overruns = x.overruns := by
  unfold Port.choose; (repeat' split) <;> rfl
@[simp] theorem Port.choose_breaks (x : Port) : x.choose.breaks = x.breaks := by
  unfold Port.choose; (repeat' split) <;> rfl

@[simp] theorem Port.choose_inService (x : Port) : x.choose.inService = x.inService := by
  simp [Port.inService]

/-- A transmitter that has chosen does not choose again. -/
@[simp] theorem Port.choose_choose (x : Port) : x.choose.choose = x.choose := by
  unfold Port.choose
  (repeat' split) <;> simp_all [Port.inService]

/-- A transmitter's choice keeps a still port still. -/
theorem Port.choose_still (x : Port) (held : Bool) (h : x.still held = true) : x.choose.still held = true := by
  unfold Port.still Port.waiting at *
  simp only [Port.choose_slotA]
  cases hs : x.sending with
  | some f => simpa [Port.choose, hs] using h
  | none =>
    simp only [Bool.or_eq_true, hs, Option.isSome_none, Bool.and_false, Bool.false_eq_true, or_false] at h ⊢
    rcases h with h | h
    · exact Or.inl (Or.inl h)
    · exact Or.inr h

theorem transmit_all (s : State) : transmit .vehicle (transmit .remote (transmit .panel s)) = transmitAll s := by
  simp [transmit, transmitAll, State.setPort, State.withPorts, PerPort.set, PerPort.get]

@[simp] theorem transmitAll_get (s : State) (p : PortId) : (transmitAll s).ports.get p = (s.ports.get p).choose := by
  cases p <;> rfl

@[simp] theorem transmitAll_frame (s : State) :
    (transmitAll s).powered = s.powered ∧ (transmitAll s).settings = s.settings ∧ (transmitAll s).store = s.store
      ∧ (transmitAll s).defaulted = s.defaulted ∧ (transmitAll s).saving = s.saving
      ∧ (transmitAll s).slowPeriod = s.slowPeriod ∧ (transmitAll s).account = s.account
      ∧ (transmitAll s).drive = s.drive ∧ (transmitAll s).adm = s.adm ∧ (transmitAll s).tanks = s.tanks
      ∧ (transmitAll s).water = s.water ∧ (transmitAll s).heater = s.heater ∧ (transmitAll s).frost = s.frost
      ∧ (transmitAll s).motion = s.motion ∧ (transmitAll s).light = s.light ∧ (transmitAll s).runner = s.runner
      ∧ (transmitAll s).restarting = s.restarting ∧ (transmitAll s).sleep = s.sleep
      ∧ (transmitAll s).pending = s.pending := by
  simp [transmitAll]

@[simp] theorem transmitAll_transmitAll (s : State) : transmitAll (transmitAll s) = transmitAll s := by
  simp [transmitAll, State.withPorts]

theorem transmitAll_stillAt (s : State) (p : PortId) (h : s.stillAt p = true) : (transmitAll s).stillAt p = true := by
  unfold State.stillAt at *
  simpa using Port.choose_still _ _ h

/-! ### Service -/

/-- A still port serves nothing. -/
theorem serve_still (p : PortId) (s : State) (h : s.stillAt p = true) : serve p s = s := by
  unfold serve
  have hn : servable p s = none := by
    unfold State.stillAt Port.still Port.waiting at h
    unfold servable
    dsimp only
    cases ha : (s.ports.get p).answer <;> cases hs : (s.ports.get p).slotA <;> simp_all
    rcases h with h | h <;> simp [h]
  rw [hn]

/-- With every port still, the links only let their transmitters choose. -/
theorem linkWork_idle (s : State) (h : s.linksIdle = true) : linkWork s = transmitAll s := by
  simp only [State.linksIdle, Bool.and_eq_true] at h
  obtain ⟨⟨hp, hr⟩, hv⟩ := h
  have round : ∀ u : State, u.stillAt .panel = true → u.stillAt .remote = true → u.stillAt .vehicle = true →
      linkRound u = transmitAll u := by
    intro u h1 h2 h3
    simp only [linkRound, serve_still _ _ h1, serve_still _ _ h2, serve_still _ _ h3, transmit_all]
  have t1 := round s hp hr hv
  have t2 := round (transmitAll s) (transmitAll_stillAt _ _ hp) (transmitAll_stillAt _ _ hr) (transmitAll_stillAt _ _ hv)
  simp only [linkWork, t1, t2, transmitAll_transmitAll]

/-- With one request to serve, the other ports still, and every port still once it is served, the links serve it and let
the transmitters choose. -/
theorem linkWork_one (p : PortId) (s : State) (hother : ∀ q, q ≠ p → s.stillAt q = true)
    (hafter : ∀ q, (serve p s).stillAt q = true) : linkWork s = transmitAll (serve p s) := by
  have round : linkRound s = transmitAll (serve p s) := by
    cases p with
    | panel =>
      simp only [linkRound, serve_still _ _ (hafter .remote), serve_still _ _ (hafter .vehicle), transmit_all]
    | remote =>
      simp only [linkRound, serve_still _ _ (hother .panel (by decide)), serve_still _ _ (hafter .vehicle), transmit_all]
    | vehicle =>
      simp only [linkRound, serve_still _ _ (hother .panel (by decide)), serve_still _ _ (hother .remote (by decide)),
        transmit_all]
  have next : ∀ u : State, u = transmitAll (serve p s) → linkRound u = u := by
    intro u hu
    have hst : ∀ q, u.stillAt q = true := fun q => hu ▸ transmitAll_stillAt _ _ (hafter q)
    simp only [linkRound, serve_still _ _ (hst .panel), serve_still _ _ (hst .remote), serve_still _ _ (hst .vehicle),
      transmit_all]
    rw [hu, transmitAll_transmitAll]
  simp only [linkWork, round, next _ rfl]

/-! ### An event that leaves nothing to hand on or to serve -/

/-- The links of a port less its queue say whether it is still. -/
theorem stillAt_of_links (s t : State) (p : PortId) (hl : (t.ports.get p).link = (s.ports.get p).link)
    (hr : t.restarting = s.restarting) (h : s.stillAt p = true) : t.stillAt p = true := by
  have hA : (t.ports.get p).slotA = (s.ports.get p).slotA := by simpa [Port.link] using congrArg Port.slotA hl
  have hB : (t.ports.get p).answer = (s.ports.get p).answer := by simpa [Port.link] using congrArg Port.answer hl
  have hC : (t.ports.get p).sending = (s.ports.get p).sending := by simpa [Port.link] using congrArg Port.sending hl
  unfold State.stillAt Port.still Port.waiting at *
  rw [hA, hB, hC, hr]; exact h

@[simp] theorem State.links_get (s : State) (p : PortId) : s.links.get p = (s.ports.get p).link := by
  cases p <;> rfl

theorem linksIdle_of_links (s t : State) (hl : t.links = s.links) (hr : t.restarting = s.restarting)
    (h : s.linksIdle = true) : t.linksIdle = true := by
  have hq : ∀ q, (t.ports.get q).link = (s.ports.get q).link := by
    intro q; have := congrArg (fun x => x.get q) hl; simpa using this
  simp only [State.linksIdle, Bool.and_eq_true] at *
  exact ⟨⟨stillAt_of_links s t _ (hq _) hr h.1.1, stillAt_of_links s t _ (hq _) hr h.1.2⟩,
    stillAt_of_links s t _ (hq _) hr h.2⟩

/-- A settled state hands nothing on: its sleep conditions are judged. -/
theorem settle_of_settled (s : State) (h : s.settled = true) : settle s = judgeSleep s := by
  simp only [State.settled, Bool.and_eq_true, List.isEmpty_iff, Option.isNone_iff_eq_none,
    Bool.not_eq_true'] at h
  exact settle_settled s h.1.1 h.1.2 h.2

/-- A settled state whose sleep conditions are judged is settled as it stands. -/
theorem settle_of_judged (s : State) (h : s.settled = true) (hj : s.judged = true) : settle s = s := by
  rw [settle_of_settled s h, judgeSleep_of_judged s hj]

/-- An event of a part with supply that leaves nothing to hand on and the ports' links as they were. -/
theorem event_of_settled (f : State → State) (s : State) (hs : s.calm = true) (hf : (settle (f s)).links = s.links)
    (hr : (f s).restarting = s.restarting) : event f s = .next (close (settle (f s))) := by
  simp only [State.calm, Bool.and_eq_true] at hs
  have hi : (settle (f s)).linksIdle = true := linksIdle_of_links s _ hf (by simp [hr]) hs.1.2
  simp only [event, hs.1.1.1, if_true, finish, linkWork_idle _ hi, close]

end Sys2Proof.Machine
end

