-- ==== Sys2Proof/Laws/FrameLinks.lean ====
section
/-! SUPPORT. What a WRITE's owners, a port reset and the links' own operations leave as it was, as Laws/Frame.lean has it for the
blocks; and what the delivery and the service of a request leave. -/

namespace Sys2Proof.Machine

/-! ### Write -/

@[simp] theorem writeBattery_frame (v : Values) (s : State) :
    (writeBattery v s).2.powered = s.powered ∧ (writeBattery v s).2.store = s.store
      ∧ (writeBattery v s).2.defaulted = s.defaulted ∧ (writeBattery v s).2.saving = s.saving
      ∧ (writeBattery v s).2.slowPeriod = s.slowPeriod ∧ (writeBattery v s).2.account = s.account
      ∧ (writeBattery v s).2.drive = s.drive ∧ (writeBattery v s).2.adm = s.adm
      ∧ (writeBattery v s).2.tanks = s.tanks ∧ (writeBattery v s).2.water = s.water
      ∧ (writeBattery v s).2.heater = s.heater ∧ (writeBattery v s).2.frost = s.frost
      ∧ (writeBattery v s).2.motion = s.motion ∧ (writeBattery v s).2.light = s.light
      ∧ (writeBattery v s).2.runner = s.runner ∧ (writeBattery v s).2.ports = s.ports
      ∧ (writeBattery v s).2.restarting = s.restarting ∧ (writeBattery v s).2.sleep = s.sleep
      ∧ (writeBattery v s).2.pending = s.pending ∧ (writeBattery v s).2.links = s.links := by
  generalize h : (writeBattery v s) = t
  unfold writeBattery at h
  try dsimp only at h
  (repeat' split at h) <;> (subst h; simp)

@[simp] theorem writeBudget_frame (v : Values) (s : State) :
    (writeBudget v s).2.powered = s.powered ∧ (writeBudget v s).2.store = s.store
      ∧ (writeBudget v s).2.defaulted = s.defaulted ∧ (writeBudget v s).2.saving = s.saving
      ∧ (writeBudget v s).2.slowPeriod = s.slowPeriod ∧ (writeBudget v s).2.account = s.account
      ∧ (writeBudget v s).2.drive = s.drive ∧ (writeBudget v s).2.adm = s.adm
      ∧ (writeBudget v s).2.tanks = s.tanks ∧ (writeBudget v s).2.water = s.water
      ∧ (writeBudget v s).2.heater = s.heater ∧ (writeBudget v s).2.frost = s.frost
      ∧ (writeBudget v s).2.motion = s.motion ∧ (writeBudget v s).2.light = s.light
      ∧ (writeBudget v s).2.runner = s.runner ∧ (writeBudget v s).2.ports = s.ports
      ∧ (writeBudget v s).2.restarting = s.restarting ∧ (writeBudget v s).2.sleep = s.sleep
      ∧ (writeBudget v s).2.pending = s.pending ∧ (writeBudget v s).2.links = s.links := by
  generalize h : (writeBudget v s) = t
  unfold writeBudget at h
  try dsimp only at h
  (repeat' split at h) <;> (subst h; simp)

@[simp] theorem writeLoad_frame (i : Nat) (v : Values) (s : State) :
    (writeLoad i v s).2.powered = s.powered ∧ (writeLoad i v s).2.store = s.store
      ∧ (writeLoad i v s).2.defaulted = s.defaulted ∧ (writeLoad i v s).2.saving = s.saving
      ∧ (writeLoad i v s).2.slowPeriod = s.slowPeriod ∧ (writeLoad i v s).2.account = s.account
      ∧ (writeLoad i v s).2.drive = s.drive ∧ (writeLoad i v s).2.tanks = s.tanks
      ∧ (writeLoad i v s).2.water = s.water ∧ (writeLoad i v s).2.heater = s.heater
      ∧ (writeLoad i v s).2.frost = s.frost ∧ (writeLoad i v s).2.motion = s.motion
      ∧ (writeLoad i v s).2.light = s.light ∧ (writeLoad i v s).2.runner = s.runner
      ∧ (writeLoad i v s).2.ports = s.ports ∧ (writeLoad i v s).2.restarting = s.restarting
      ∧ (writeLoad i v s).2.sleep = s.sleep ∧ (writeLoad i v s).2.pending = s.pending
      ∧ (writeLoad i v s).2.links = s.links := by
  generalize h : (writeLoad i v s) = t
  unfold writeLoad at h
  try dsimp only at h
  (repeat' split at h) <;> (subst h; simp)

@[simp] theorem tankRewritten_frame (t : TankId) (s : State) :
    (tankRewritten t s).powered = s.powered ∧ (tankRewritten t s).settings = s.settings
      ∧ (tankRewritten t s).store = s.store ∧ (tankRewritten t s).defaulted = s.defaulted
      ∧ (tankRewritten t s).saving = s.saving ∧ (tankRewritten t s).slowPeriod = s.slowPeriod
      ∧ (tankRewritten t s).account = s.account ∧ (tankRewritten t s).drive = s.drive
      ∧ (tankRewritten t s).adm = s.adm ∧ (tankRewritten t s).heater = s.heater
      ∧ (tankRewritten t s).frost = s.frost ∧ (tankRewritten t s).motion = s.motion
      ∧ (tankRewritten t s).light = s.light ∧ (tankRewritten t s).runner = s.runner
      ∧ (tankRewritten t s).ports = s.ports ∧ (tankRewritten t s).restarting = s.restarting
      ∧ (tankRewritten t s).sleep = s.sleep ∧ (tankRewritten t s).pending = s.pending
      ∧ (tankRewritten t s).links = s.links := by
  generalize h : (tankRewritten t s) = t
  unfold tankRewritten at h
  try dsimp only at h
  (repeat' split at h) <;> (subst h; simp)

@[simp] theorem writeTank_frame (t : TankId) (v : Values) (s : State) :
    (writeTank t v s).2.powered = s.powered ∧ (writeTank t v s).2.store = s.store
      ∧ (writeTank t v s).2.defaulted = s.defaulted ∧ (writeTank t v s).2.saving = s.saving
      ∧ (writeTank t v s).2.slowPeriod = s.slowPeriod ∧ (writeTank t v s).2.account = s.account
      ∧ (writeTank t v s).2.drive = s.drive ∧ (writeTank t v s).2.adm = s.adm
      ∧ (writeTank t v s).2.heater = s.heater ∧ (writeTank t v s).2.frost = s.frost
      ∧ (writeTank t v s).2.motion = s.motion ∧ (writeTank t v s).2.light = s.light
      ∧ (writeTank t v s).2.runner = s.runner ∧ (writeTank t v s).2.ports = s.ports
      ∧ (writeTank t v s).2.restarting = s.restarting ∧ (writeTank t v s).2.sleep = s.sleep
      ∧ (writeTank t v s).2.pending = s.pending ∧ (writeTank t v s).2.links = s.links := by
  generalize h : (writeTank t v s) = t
  unfold writeTank at h
  try dsimp only at h
  (repeat' split at h) <;> (subst h; simp)

@[simp] theorem writeWater_frame (v : Values) (s : State) :
    (writeWater v s).2.powered = s.powered ∧ (writeWater v s).2.store = s.store
      ∧ (writeWater v s).2.defaulted = s.defaulted ∧ (writeWater v s).2.saving = s.saving
      ∧ (writeWater v s).2.slowPeriod = s.slowPeriod ∧ (writeWater v s).2.account = s.account
      ∧ (writeWater v s).2.drive = s.drive ∧ (writeWater v s).2.adm = s.adm ∧ (writeWater v s).2.tanks = s.tanks
      ∧ (writeWater v s).2.water = s.water ∧ (writeWater v s).2.heater = s.heater
      ∧ (writeWater v s).2.frost = s.frost ∧ (writeWater v s).2.motion = s.motion
      ∧ (writeWater v s).2.light = s.light ∧ (writeWater v s).2.runner = s.runner
      ∧ (writeWater v s).2.ports = s.ports ∧ (writeWater v s).2.restarting = s.restarting
      ∧ (writeWater v s).2.sleep = s.sleep ∧ (writeWater v s).2.pending = s.pending
      ∧ (writeWater v s).2.links = s.links := by
  generalize h : (writeWater v s) = t
  unfold writeWater at h
  try dsimp only at h
  (repeat' split at h) <;> (subst h; simp)

@[simp] theorem writeHeater_frame (v : Values) (s : State) :
    (writeHeater v s).2.powered = s.powered ∧ (writeHeater v s).2.store = s.store
      ∧ (writeHeater v s).2.defaulted = s.defaulted ∧ (writeHeater v s).2.saving = s.saving
      ∧ (writeHeater v s).2.slowPeriod = s.slowPeriod ∧ (writeHeater v s).2.account = s.account
      ∧ (writeHeater v s).2.drive = s.drive ∧ (writeHeater v s).2.tanks = s.tanks
      ∧ (writeHeater v s).2.motion = s.motion ∧ (writeHeater v s).2.light = s.light
      ∧ (writeHeater v s).2.runner = s.runner ∧ (writeHeater v s).2.links = s.links
      ∧ (writeHeater v s).2.restarting = s.restarting ∧ (writeHeater v s).2.sleep = s.sleep
      ∧ (writeHeater v s).2.pending = s.pending := by
  unfold writeHeater
  (repeat' split) <;> simp

@[simp] theorem writeMotion_frame (a : Actuator) (v : Values) (s : State) :
    (writeMotion a v s).2.powered = s.powered ∧ (writeMotion a v s).2.store = s.store
      ∧ (writeMotion a v s).2.defaulted = s.defaulted ∧ (writeMotion a v s).2.saving = s.saving
      ∧ (writeMotion a v s).2.slowPeriod = s.slowPeriod ∧ (writeMotion a v s).2.account = s.account
      ∧ (writeMotion a v s).2.drive = s.drive ∧ (writeMotion a v s).2.adm = s.adm
      ∧ (writeMotion a v s).2.tanks = s.tanks ∧ (writeMotion a v s).2.water = s.water
      ∧ (writeMotion a v s).2.heater = s.heater ∧ (writeMotion a v s).2.frost = s.frost
      ∧ (writeMotion a v s).2.motion = s.motion ∧ (writeMotion a v s).2.light = s.light
      ∧ (writeMotion a v s).2.runner = s.runner ∧ (writeMotion a v s).2.ports = s.ports
      ∧ (writeMotion a v s).2.restarting = s.restarting ∧ (writeMotion a v s).2.sleep = s.sleep
      ∧ (writeMotion a v s).2.pending = s.pending ∧ (writeMotion a v s).2.links = s.links := by
  generalize h : (writeMotion a v s) = t
  unfold writeMotion at h
  try dsimp only at h
  (repeat' split at h) <;> (subst h; simp)

@[simp] theorem writeChannel_frame (i : Nat) (v : Values) (s : State) :
    (writeChannel i v s).2.powered = s.powered ∧ (writeChannel i v s).2.store = s.store
      ∧ (writeChannel i v s).2.defaulted = s.defaulted ∧ (writeChannel i v s).2.saving = s.saving
      ∧ (writeChannel i v s).2.slowPeriod = s.slowPeriod ∧ (writeChannel i v s).2.account = s.account
      ∧ (writeChannel i v s).2.drive = s.drive ∧ (writeChannel i v s).2.adm = s.adm
      ∧ (writeChannel i v s).2.tanks = s.tanks ∧ (writeChannel i v s).2.water = s.water
      ∧ (writeChannel i v s).2.heater = s.heater ∧ (writeChannel i v s).2.frost = s.frost
      ∧ (writeChannel i v s).2.motion = s.motion ∧ (writeChannel i v s).2.light = s.light
      ∧ (writeChannel i v s).2.runner = s.runner ∧ (writeChannel i v s).2.ports = s.ports
      ∧ (writeChannel i v s).2.restarting = s.restarting ∧ (writeChannel i v s).2.sleep = s.sleep
      ∧ (writeChannel i v s).2.pending = s.pending ∧ (writeChannel i v s).2.links = s.links := by
  generalize h : (writeChannel i v s) = t
  unfold writeChannel at h
  try dsimp only at h
  (repeat' split at h) <;> (subst h; simp)

@[simp] theorem writeScene_frame (i : Nat) (v : Values) (s : State) :
    (writeScene i v s).2.powered = s.powered ∧ (writeScene i v s).2.store = s.store
      ∧ (writeScene i v s).2.defaulted = s.defaulted ∧ (writeScene i v s).2.saving = s.saving
      ∧ (writeScene i v s).2.slowPeriod = s.slowPeriod ∧ (writeScene i v s).2.account = s.account
      ∧ (writeScene i v s).2.drive = s.drive ∧ (writeScene i v s).2.adm = s.adm
      ∧ (writeScene i v s).2.tanks = s.tanks ∧ (writeScene i v s).2.water = s.water
      ∧ (writeScene i v s).2.heater = s.heater ∧ (writeScene i v s).2.frost = s.frost
      ∧ (writeScene i v s).2.motion = s.motion ∧ (writeScene i v s).2.light = s.light
      ∧ (writeScene i v s).2.runner = s.runner ∧ (writeScene i v s).2.ports = s.ports
      ∧ (writeScene i v s).2.restarting = s.restarting ∧ (writeScene i v s).2.sleep = s.sleep
      ∧ (writeScene i v s).2.pending = s.pending ∧ (writeScene i v s).2.links = s.links := by
  generalize h : (writeScene i v s) = t
  unfold writeScene at h
  try dsimp only at h
  (repeat' split at h) <;> (subst h; simp)

@[simp] theorem writeRoutine_frame (i : Nat) (v : Values) (s : State) :
    (writeRoutine i v s).2.powered = s.powered ∧ (writeRoutine i v s).2.store = s.store
      ∧ (writeRoutine i v s).2.defaulted = s.defaulted ∧ (writeRoutine i v s).2.saving = s.saving
      ∧ (writeRoutine i v s).2.slowPeriod = s.slowPeriod ∧ (writeRoutine i v s).2.account = s.account
      ∧ (writeRoutine i v s).2.drive = s.drive ∧ (writeRoutine i v s).2.adm = s.adm
      ∧ (writeRoutine i v s).2.tanks = s.tanks ∧ (writeRoutine i v s).2.water = s.water
      ∧ (writeRoutine i v s).2.heater = s.heater ∧ (writeRoutine i v s).2.frost = s.frost
      ∧ (writeRoutine i v s).2.motion = s.motion ∧ (writeRoutine i v s).2.light = s.light
      ∧ (writeRoutine i v s).2.runner = s.runner ∧ (writeRoutine i v s).2.ports = s.ports
      ∧ (writeRoutine i v s).2.restarting = s.restarting ∧ (writeRoutine i v s).2.sleep = s.sleep
      ∧ (writeRoutine i v s).2.pending = s.pending ∧ (writeRoutine i v s).2.links = s.links := by
  generalize h : (writeRoutine i v s) = t
  unfold writeRoutine at h
  try dsimp only at h
  (repeat' split at h) <;> (subst h; simp)

@[simp] theorem ownerWrite_frame (c : RecClass) (i : Nat) (v : Values) (s : State) :
    (ownerWrite c i v s).2.powered = s.powered ∧ (ownerWrite c i v s).2.store = s.store
      ∧ (ownerWrite c i v s).2.defaulted = s.defaulted ∧ (ownerWrite c i v s).2.saving = s.saving
      ∧ (ownerWrite c i v s).2.slowPeriod = s.slowPeriod ∧ (ownerWrite c i v s).2.account = s.account
      ∧ (ownerWrite c i v s).2.drive = s.drive ∧ (ownerWrite c i v s).2.motion = s.motion
      ∧ (ownerWrite c i v s).2.light = s.light ∧ (ownerWrite c i v s).2.runner = s.runner
      ∧ (ownerWrite c i v s).2.links = s.links ∧ (ownerWrite c i v s).2.restarting = s.restarting
      ∧ (ownerWrite c i v s).2.sleep = s.sleep ∧ (ownerWrite c i v s).2.pending = s.pending := by
  generalize h : (ownerWrite c i v s) = t
  unfold ownerWrite at h
  try dsimp only at h
  (repeat' split at h) <;> (subst h; simp)

@[simp] theorem writeRecord_frame (c : RecClass) (i : Nat) (mask : Half) (bytes : List Byte) (s : State) :
    (writeRecord c i mask bytes s).2.powered = s.powered ∧ (writeRecord c i mask bytes s).2.store = s.store
      ∧ (writeRecord c i mask bytes s).2.defaulted = s.defaulted
      ∧ (writeRecord c i mask bytes s).2.saving = s.saving
      ∧ (writeRecord c i mask bytes s).2.slowPeriod = s.slowPeriod
      ∧ (writeRecord c i mask bytes s).2.account = s.account ∧ (writeRecord c i mask bytes s).2.drive = s.drive
      ∧ (writeRecord c i mask bytes s).2.motion = s.motion ∧ (writeRecord c i mask bytes s).2.light = s.light
      ∧ (writeRecord c i mask bytes s).2.runner = s.runner ∧ (writeRecord c i mask bytes s).2.links = s.links
      ∧ (writeRecord c i mask bytes s).2.restarting = s.restarting
      ∧ (writeRecord c i mask bytes s).2.sleep = s.sleep ∧ (writeRecord c i mask bytes s).2.pending = s.pending := by
  generalize h : (writeRecord c i mask bytes s) = t
  unfold writeRecord at h
  try dsimp only at h
  (repeat' split at h) <;> (subst h; simp)

@[simp] theorem writeRequest_frame (body : List Byte) (s : State) :
    (writeRequest body s).2.powered = s.powered ∧ (writeRequest body s).2.store = s.store
      ∧ (writeRequest body s).2.defaulted = s.defaulted ∧ (writeRequest body s).2.saving = s.saving
      ∧ (writeRequest body s).2.slowPeriod = s.slowPeriod ∧ (writeRequest body s).2.account = s.account
      ∧ (writeRequest body s).2.drive = s.drive ∧ (writeRequest body s).2.motion = s.motion
      ∧ (writeRequest body s).2.light = s.light ∧ (writeRequest body s).2.runner = s.runner
      ∧ (writeRequest body s).2.links = s.links ∧ (writeRequest body s).2.restarting = s.restarting
      ∧ (writeRequest body s).2.sleep = s.sleep ∧ (writeRequest body s).2.pending = s.pending := by
  generalize h : (writeRequest body s) = t
  unfold writeRequest at h
  try dsimp only at h
  (repeat' split at h) <;> (subst h; simp)

/-! ### Links -/

@[simp] theorem putAnswer_frame (p : PortId) (x : TxFrame) (s : State) :
    (putAnswer p x s).powered = s.powered ∧ (putAnswer p x s).settings = s.settings
      ∧ (putAnswer p x s).store = s.store ∧ (putAnswer p x s).defaulted = s.defaulted
      ∧ (putAnswer p x s).saving = s.saving ∧ (putAnswer p x s).slowPeriod = s.slowPeriod
      ∧ (putAnswer p x s).account = s.account ∧ (putAnswer p x s).drive = s.drive
      ∧ (putAnswer p x s).adm = s.adm ∧ (putAnswer p x s).tanks = s.tanks ∧ (putAnswer p x s).water = s.water
      ∧ (putAnswer p x s).heater = s.heater ∧ (putAnswer p x s).frost = s.frost
      ∧ (putAnswer p x s).motion = s.motion ∧ (putAnswer p x s).light = s.light
      ∧ (putAnswer p x s).runner = s.runner ∧ (putAnswer p x s).restarting = s.restarting
      ∧ (putAnswer p x s).sleep = s.sleep ∧ (putAnswer p x s).pending = s.pending := by
  generalize h : (putAnswer p x s) = t
  unfold putAnswer at h
  try dsimp only at h
  (repeat' split at h) <;> (subst h; simp)

@[simp] theorem finishSlot_frame (p : PortId) (x : TxFrame) (s : State) :
    (finishSlot p x s).powered = s.powered ∧ (finishSlot p x s).settings = s.settings
      ∧ (finishSlot p x s).store = s.store ∧ (finishSlot p x s).defaulted = s.defaulted
      ∧ (finishSlot p x s).saving = s.saving ∧ (finishSlot p x s).slowPeriod = s.slowPeriod
      ∧ (finishSlot p x s).account = s.account ∧ (finishSlot p x s).drive = s.drive
      ∧ (finishSlot p x s).adm = s.adm ∧ (finishSlot p x s).tanks = s.tanks ∧ (finishSlot p x s).water = s.water
      ∧ (finishSlot p x s).heater = s.heater ∧ (finishSlot p x s).frost = s.frost
      ∧ (finishSlot p x s).motion = s.motion ∧ (finishSlot p x s).light = s.light
      ∧ (finishSlot p x s).runner = s.runner ∧ (finishSlot p x s).restarting = s.restarting
      ∧ (finishSlot p x s).sleep = s.sleep ∧ (finishSlot p x s).pending = s.pending := by
  generalize h : (finishSlot p x s) = t
  unfold finishSlot at h
  try dsimp only at h
  (repeat' split at h) <;> (subst h; simp)

@[simp] theorem portReset_frame (p : PortId) (keep : Bool) (s : State) :
    (portReset p keep s).powered = s.powered ∧ (portReset p keep s).settings = s.settings
      ∧ (portReset p keep s).store = s.store ∧ (portReset p keep s).defaulted = s.defaulted
      ∧ (portReset p keep s).saving = s.saving ∧ (portReset p keep s).slowPeriod = s.slowPeriod
      ∧ (portReset p keep s).account = s.account ∧ (portReset p keep s).tanks = s.tanks
      ∧ (portReset p keep s).water = s.water ∧ (portReset p keep s).heater = s.heater
      ∧ (portReset p keep s).frost = s.frost ∧ (portReset p keep s).restarting = s.restarting
      ∧ (portReset p keep s).sleep = s.sleep ∧ (portReset p keep s).pending = s.pending := by
  generalize h : (portReset p keep s) = t
  unfold portReset at h
  try dsimp only at h
  (repeat' split at h) <;> (subst h; simp)

@[simp] theorem refusedDrive_frame (p : PortId) (f : Frame) (s : State) :
    (refusedDrive p f s).powered = s.powered ∧ (refusedDrive p f s).settings = s.settings
      ∧ (refusedDrive p f s).store = s.store ∧ (refusedDrive p f s).defaulted = s.defaulted
      ∧ (refusedDrive p f s).saving = s.saving ∧ (refusedDrive p f s).slowPeriod = s.slowPeriod
      ∧ (refusedDrive p f s).account = s.account ∧ (refusedDrive p f s).drive = s.drive
      ∧ (refusedDrive p f s).adm = s.adm ∧ (refusedDrive p f s).tanks = s.tanks
      ∧ (refusedDrive p f s).water = s.water ∧ (refusedDrive p f s).heater = s.heater
      ∧ (refusedDrive p f s).frost = s.frost ∧ (refusedDrive p f s).motion = s.motion
      ∧ (refusedDrive p f s).light = s.light ∧ (refusedDrive p f s).runner = s.runner
      ∧ (refusedDrive p f s).ports = s.ports ∧ (refusedDrive p f s).restarting = s.restarting
      ∧ (refusedDrive p f s).pending = s.pending ∧ (refusedDrive p f s).links = s.links := by
  generalize h : (refusedDrive p f s) = t
  unfold refusedDrive at h
  try dsimp only at h
  (repeat' split at h) <;> (subst h; simp)

@[simp] theorem transmit_frame (p : PortId) (s : State) :
    (transmit p s).powered = s.powered ∧ (transmit p s).settings = s.settings ∧ (transmit p s).store = s.store
      ∧ (transmit p s).defaulted = s.defaulted ∧ (transmit p s).saving = s.saving
      ∧ (transmit p s).slowPeriod = s.slowPeriod ∧ (transmit p s).account = s.account
      ∧ (transmit p s).drive = s.drive ∧ (transmit p s).adm = s.adm ∧ (transmit p s).tanks = s.tanks
      ∧ (transmit p s).water = s.water ∧ (transmit p s).heater = s.heater ∧ (transmit p s).frost = s.frost
      ∧ (transmit p s).motion = s.motion ∧ (transmit p s).light = s.light ∧ (transmit p s).runner = s.runner
      ∧ (transmit p s).restarting = s.restarting ∧ (transmit p s).sleep = s.sleep
      ∧ (transmit p s).pending = s.pending := by
  generalize h : (transmit p s) = t
  unfold transmit at h
  try dsimp only at h
  (repeat' split at h) <;> (subst h; simp)

@[simp] theorem overrun_frame (p : PortId) (s : State) :
    (overrun p s).powered = s.powered ∧ (overrun p s).settings = s.settings ∧ (overrun p s).store = s.store
      ∧ (overrun p s).defaulted = s.defaulted ∧ (overrun p s).saving = s.saving
      ∧ (overrun p s).slowPeriod = s.slowPeriod ∧ (overrun p s).account = s.account
      ∧ (overrun p s).drive = s.drive ∧ (overrun p s).adm = s.adm ∧ (overrun p s).tanks = s.tanks
      ∧ (overrun p s).water = s.water ∧ (overrun p s).heater = s.heater ∧ (overrun p s).frost = s.frost
      ∧ (overrun p s).motion = s.motion ∧ (overrun p s).light = s.light ∧ (overrun p s).runner = s.runner
      ∧ (overrun p s).restarting = s.restarting ∧ (overrun p s).sleep = s.sleep
      ∧ (overrun p s).pending = s.pending := by
  generalize h : (overrun p s) = t
  unfold overrun at h
  try dsimp only at h
  (repeat' split at h) <;> (subst h; simp)

@[simp] theorem badFrame_frame (p : PortId) (s : State) :
    (badFrame p s).powered = s.powered ∧ (badFrame p s).settings = s.settings ∧ (badFrame p s).store = s.store
      ∧ (badFrame p s).defaulted = s.defaulted ∧ (badFrame p s).saving = s.saving
      ∧ (badFrame p s).slowPeriod = s.slowPeriod ∧ (badFrame p s).account = s.account
      ∧ (badFrame p s).drive = s.drive ∧ (badFrame p s).adm = s.adm ∧ (badFrame p s).tanks = s.tanks
      ∧ (badFrame p s).water = s.water ∧ (badFrame p s).heater = s.heater ∧ (badFrame p s).frost = s.frost
      ∧ (badFrame p s).motion = s.motion ∧ (badFrame p s).light = s.light ∧ (badFrame p s).runner = s.runner
      ∧ (badFrame p s).restarting = s.restarting ∧ (badFrame p s).sleep = s.sleep
      ∧ (badFrame p s).pending = s.pending := by
  generalize h : (badFrame p s) = t
  unfold badFrame at h
  try dsimp only at h
  (repeat' split at h) <;> (subst h; simp)

@[simp] theorem reportArrival_frame (p : PortId) (f : Frame) (s : State) :
    (reportArrival p f s).powered = s.powered ∧ (reportArrival p f s).settings = s.settings
      ∧ (reportArrival p f s).store = s.store ∧ (reportArrival p f s).defaulted = s.defaulted
      ∧ (reportArrival p f s).saving = s.saving ∧ (reportArrival p f s).slowPeriod = s.slowPeriod
      ∧ (reportArrival p f s).account = s.account ∧ (reportArrival p f s).drive = s.drive
      ∧ (reportArrival p f s).adm = s.adm ∧ (reportArrival p f s).tanks = s.tanks
      ∧ (reportArrival p f s).water = s.water ∧ (reportArrival p f s).heater = s.heater
      ∧ (reportArrival p f s).frost = s.frost ∧ (reportArrival p f s).motion = s.motion
      ∧ (reportArrival p f s).light = s.light ∧ (reportArrival p f s).runner = s.runner
      ∧ (reportArrival p f s).ports = s.ports ∧ (reportArrival p f s).restarting = s.restarting
      ∧ (reportArrival p f s).pending = s.pending ∧ (reportArrival p f s).links = s.links := by
  generalize h : (reportArrival p f s) = t
  unfold reportArrival at h
  try dsimp only at h
  (repeat' split at h) <;> (subst h; simp)

@[simp] theorem setAsm_frame (p : PortId) (a : Assembler) (s : State) :
    (setAsm p a s).powered = s.powered ∧ (setAsm p a s).settings = s.settings ∧ (setAsm p a s).store = s.store
      ∧ (setAsm p a s).defaulted = s.defaulted ∧ (setAsm p a s).saving = s.saving
      ∧ (setAsm p a s).slowPeriod = s.slowPeriod ∧ (setAsm p a s).account = s.account
      ∧ (setAsm p a s).drive = s.drive ∧ (setAsm p a s).adm = s.adm ∧ (setAsm p a s).tanks = s.tanks
      ∧ (setAsm p a s).water = s.water ∧ (setAsm p a s).heater = s.heater ∧ (setAsm p a s).frost = s.frost
      ∧ (setAsm p a s).motion = s.motion ∧ (setAsm p a s).light = s.light ∧ (setAsm p a s).runner = s.runner
      ∧ (setAsm p a s).restarting = s.restarting ∧ (setAsm p a s).sleep = s.sleep
      ∧ (setAsm p a s).pending = s.pending := by
  generalize h : (setAsm p a s) = t
  unfold setAsm at h
  try dsimp only at h
  (repeat' split at h) <;> (subst h; simp)

@[simp] theorem resync_frame (p : PortId) (s : State) :
    (resync p s).powered = s.powered ∧ (resync p s).settings = s.settings ∧ (resync p s).store = s.store
      ∧ (resync p s).defaulted = s.defaulted ∧ (resync p s).saving = s.saving
      ∧ (resync p s).slowPeriod = s.slowPeriod ∧ (resync p s).account = s.account ∧ (resync p s).drive = s.drive
      ∧ (resync p s).adm = s.adm ∧ (resync p s).tanks = s.tanks ∧ (resync p s).water = s.water
      ∧ (resync p s).heater = s.heater ∧ (resync p s).frost = s.frost ∧ (resync p s).motion = s.motion
      ∧ (resync p s).light = s.light ∧ (resync p s).runner = s.runner ∧ (resync p s).restarting = s.restarting
      ∧ (resync p s).sleep = s.sleep ∧ (resync p s).pending = s.pending := by
  generalize h : (resync p s) = t
  unfold resync at h
  try dsimp only at h
  (repeat' split at h) <;> (subst h; simp)

@[simp] theorem startBit_frame (p : PortId) (s : State) :
    (startBit p s).powered = s.powered ∧ (startBit p s).settings = s.settings ∧ (startBit p s).store = s.store
      ∧ (startBit p s).defaulted = s.defaulted ∧ (startBit p s).saving = s.saving
      ∧ (startBit p s).slowPeriod = s.slowPeriod ∧ (startBit p s).account = s.account
      ∧ (startBit p s).drive = s.drive ∧ (startBit p s).adm = s.adm ∧ (startBit p s).tanks = s.tanks
      ∧ (startBit p s).water = s.water ∧ (startBit p s).heater = s.heater ∧ (startBit p s).frost = s.frost
      ∧ (startBit p s).motion = s.motion ∧ (startBit p s).runner = s.runner ∧ (startBit p s).ports = s.ports
      ∧ (startBit p s).restarting = s.restarting ∧ (startBit p s).pending = s.pending
      ∧ (startBit p s).links = s.links := by
  generalize h : (startBit p s) = t
  unfold startBit at h
  try dsimp only at h
  (repeat' split at h) <;> (subst h; simp)

@[simp] theorem lineHigh_frame (p : PortId) (s : State) :
    (lineHigh p s).powered = s.powered ∧ (lineHigh p s).settings = s.settings ∧ (lineHigh p s).store = s.store
      ∧ (lineHigh p s).defaulted = s.defaulted ∧ (lineHigh p s).saving = s.saving
      ∧ (lineHigh p s).slowPeriod = s.slowPeriod ∧ (lineHigh p s).account = s.account
      ∧ (lineHigh p s).drive = s.drive ∧ (lineHigh p s).adm = s.adm ∧ (lineHigh p s).tanks = s.tanks
      ∧ (lineHigh p s).water = s.water ∧ (lineHigh p s).heater = s.heater ∧ (lineHigh p s).frost = s.frost
      ∧ (lineHigh p s).motion = s.motion ∧ (lineHigh p s).light = s.light ∧ (lineHigh p s).runner = s.runner
      ∧ (lineHigh p s).restarting = s.restarting ∧ (lineHigh p s).sleep = s.sleep
      ∧ (lineHigh p s).pending = s.pending := by
  generalize h : (lineHigh p s) = t
  unfold lineHigh at h
  try dsimp only at h
  (repeat' split at h) <;> (subst h; simp)

@[simp] theorem breakTaken_frame (p : PortId) (s : State) :
    (breakTaken p s).powered = s.powered ∧ (breakTaken p s).settings = s.settings
      ∧ (breakTaken p s).store = s.store ∧ (breakTaken p s).defaulted = s.defaulted
      ∧ (breakTaken p s).saving = s.saving ∧ (breakTaken p s).slowPeriod = s.slowPeriod
      ∧ (breakTaken p s).account = s.account ∧ (breakTaken p s).tanks = s.tanks
      ∧ (breakTaken p s).water = s.water ∧ (breakTaken p s).heater = s.heater ∧ (breakTaken p s).frost = s.frost
      ∧ (breakTaken p s).restarting = s.restarting ∧ (breakTaken p s).sleep = s.sleep
      ∧ (breakTaken p s).pending = s.pending := by
  generalize h : (breakTaken p s) = t
  unfold breakTaken at h
  try dsimp only at h
  (repeat' split at h) <;> (subst h; simp)

@[simp] theorem attachRequest_frame (p : PortId) (body : List Byte) (s : State) :
    (attachRequest p body s).2.2.powered = s.powered ∧ (attachRequest p body s).2.2.settings = s.settings
      ∧ (attachRequest p body s).2.2.store = s.store ∧ (attachRequest p body s).2.2.defaulted = s.defaulted
      ∧ (attachRequest p body s).2.2.saving = s.saving ∧ (attachRequest p body s).2.2.slowPeriod = s.slowPeriod
      ∧ (attachRequest p body s).2.2.account = s.account ∧ (attachRequest p body s).2.2.tanks = s.tanks
      ∧ (attachRequest p body s).2.2.water = s.water ∧ (attachRequest p body s).2.2.heater = s.heater
      ∧ (attachRequest p body s).2.2.frost = s.frost ∧ (attachRequest p body s).2.2.restarting = s.restarting
      ∧ (attachRequest p body s).2.2.sleep = s.sleep ∧ (attachRequest p body s).2.2.pending = s.pending := by
  generalize h : (attachRequest p body s) = t
  unfold attachRequest at h
  try dsimp only at h
  (repeat' split at h) <;> (subst h; (repeat' split) <;> simp)

end Sys2Proof.Machine
end

