-- ==== Sys2Proof/Laws/Requests.lean ====
section
/-! SUPPORT. The service of a request that arrives at a port open to it: what its owner makes of it is handed on, answered and
transmitted, whatever the request. -/

namespace Sys2Proof.Machine

theorem link_of_links {s t : State} (h : t.links = s.links) (q : PortId) : (t.ports.get q).link = (s.ports.get q).link := by
  have := congrArg (fun x => x.get q) h; simpa using this

theorem setPort_get_ne (s : State) {p q : PortId} (x : Port) (h : q ≠ p) : (s.setPort p x).ports.get q = s.ports.get q := by
  simp [PerPort.get_set_ne _ _ h]

/-! ### What the delivery of a request leaves -/

theorem portReset_link_ne (p q : PortId) (keep : Bool) (s : State) (h : q ≠ p) :
    ((portReset p keep s).ports.get q).link = (s.ports.get q).link := by
  have e : (portReset p keep s).links = (s.setPort p ((s.ports.get p).detached keep)).links := by
    unfold portReset; dsimp only; split <;> simp
  rw [link_of_links e, setPort_get_ne _ _ h]

theorem portReset_link (p : PortId) (keep : Bool) (s : State) :
    ((portReset p keep s).ports.get p).link = ((s.ports.get p).detached keep).link := by
  have e : (portReset p keep s).links = (s.setPort p ((s.ports.get p).detached keep)).links := by
    unfold portReset; dsimp only; split <;> simp
  rw [link_of_links e]; simp

theorem attachRequest_link_ne (p q : PortId) (body : List Byte) (s : State) (h : q ≠ p) :
    ((attachRequest p body s).2.2.ports.get q).link = (s.ports.get q).link := by
  unfold attachRequest
  (repeat' split) <;> simp_all [PerPort.get_set_ne _ _ h, portReset_link_ne]

theorem attachRequest_slotB (p : PortId) (body : List Byte) (s : State) (h : (s.ports.get p).slotB = none) :
    ((attachRequest p body s).2.2.ports.get p).slotB = none := by
  have hr : ((portReset p true s).ports.get p).slotB = none := by
    have := congrArg Port.slotB (portReset_link p true s)
    simpa [Port.link, Port.detached] using this
  unfold attachRequest
  (repeat' split) <;> simp_all

/-- A request leaves the supply, the store, its flag, the sample period, the account and the queue of commands. -/
@[simp] theorem deliver_frame (p : PortId) (k : ReqKind) (body : List Byte) (s : State) :
    (deliver p k body s).state.powered = s.powered ∧ (deliver p k body s).state.store = s.store
      ∧ (deliver p k body s).state.defaulted = s.defaulted ∧ (deliver p k body s).state.slowPeriod = s.slowPeriod
      ∧ (deliver p k body s).state.account = s.account ∧ (deliver p k body s).state.pending = s.pending := by
  cases k <;> simp [deliver, plain, saveRequest] <;> cases s.saving <;> simp [Delivery.state]

theorem deliver_restarting (p : PortId) (k : ReqKind) (body : List Byte) (s : State) (h : k ≠ .restart) :
    (deliver p k body s).state.restarting = s.restarting := by
  cases k <;> first | exact absurd rfl h | simp [deliver, plain, saveRequest]
  all_goals (cases s.saving <;> simp [Delivery.state])

theorem deliver_saving (p : PortId) (k : ReqKind) (body : List Byte) (s : State) (h : k ≠ .save) :
    (deliver p k body s).state.saving = s.saving := by
  cases k <;> first | exact absurd rfl h | simp [deliver, Delivery.state, plain]

theorem deliver_link_ne (p q : PortId) (k : ReqKind) (body : List Byte) (s : State) (h : q ≠ p) :
    ((deliver p k body s).state.ports.get q).link = (s.ports.get q).link := by
  have key : ∀ t : State, t.links = s.links → (t.ports.get q).link = (s.ports.get q).link :=
    fun t ht => link_of_links ht q
  cases k with
  | attach => exact attachRequest_link_ne p q body s h
  | detach => exact portReset_link_ne p q true s h
  | save =>
    simp only [deliver, saveRequest]
    split <;> rfl
  | restart => rfl
  | read => rfl
  | _ => apply key; simp [deliver, Delivery.state, plain]

theorem deliver_slotB (p : PortId) (k : ReqKind) (body : List Byte) (s : State) (h : (s.ports.get p).slotB = none) :
    ((deliver p k body s).state.ports.get p).slotB = none := by
  have key : ∀ t : State, t.links = s.links → (t.ports.get p).slotB = none := by
    intro t ht
    have := congrArg Port.slotB (link_of_links ht p)
    simpa [Port.link, h] using this
  cases k with
  | attach => exact attachRequest_slotB p body s h
  | detach =>
    have := congrArg Port.slotB (portReset_link p true s)
    simpa [deliver, Delivery.state, Port.link, Port.detached] using this
  | save =>
    simp only [deliver, saveRequest]
    split <;> simpa [Delivery.state] using h
  | restart => simpa [deliver, Delivery.state] using h
  | read => simpa [deliver, Delivery.state] using h
  | _ => apply key; simp [deliver, Delivery.state, plain]

/-! ### A request that arrives at an open port -/

theorem kindOf_code (k : ReqKind) : kindOf (byte k.code) = some k := by cases k <;> decide

theorem code_is_request (k : ReqKind) : ¬ (byte k.code = 0x7E ∨ 0x80 ≤ (byte k.code).toNat) := by
  cases k <;> decide

/-- What `open_` says, part by part. -/
theorem State.open_parts {p : PortId} {s : State} (h : s.open_ p = true) :
    s.powered = true ∧ s.settled = true ∧ s.linksIdle = true ∧ s.judged = true ∧ (s.ports.get p).attached = true
      ∧ (s.ports.get p).slotA = none ∧ (s.ports.get p).slotB = none ∧ (s.ports.get p).answer = none
      ∧ (p = .panel → s.restarting = false) := by
  simp only [State.open_, State.calm, Bool.and_eq_true, Option.isNone_iff_eq_none] at h
  obtain ⟨⟨⟨⟨⟨⟨⟨⟨h1, h2⟩, h3⟩, hj⟩, h4⟩, h5⟩, h6⟩, h7⟩, h8⟩ := h
  refine ⟨h1, h2, h3, hj, h4, h5, h6, h7, ?_⟩
  rintro rfl
  simpa using h8

/-- An arrival's report leaves a judged sleep block judged: it restarts a pending idle timer and clears the mark. -/
theorem reportArrival_judged (p : PortId) (f : Frame) (s : State) (h : s.judged = true) :
    (reportArrival p f s).judged = true := by
  have hr : sleepReady (reportArrival p f s) = sleepReady s := by
    unfold reportArrival sleepFrame
    split
    · rfl
    · cases hs : s.sleep.state <;> rfl
  unfold State.judged at *
  rw [hr]
  unfold reportArrival sleepFrame
  by_cases hp : p = .vehicle ∧ f.kind.toNat = ReqKind.drive.code
  · rw [if_pos hp]; exact h
  · rw [if_neg hp]
    cases hq : sleepReady s <;> cases hs : s.sleep.state <;> simp_all

theorem stillAt_of_linksIdle {s : State} (h : s.linksIdle = true) (q : PortId) : s.stillAt q = true := by
  simp only [State.linksIdle, Bool.and_eq_true] at h
  cases q
  · exact h.1.1
  · exact h.1.2
  · exact h.2

@[simp] theorem inService_frame (p : PortId) (f : Frame) (s : State) :
    (inService p f s).powered = s.powered ∧ (inService p f s).settings = s.settings
      ∧ (inService p f s).store = s.store ∧ (inService p f s).defaulted = s.defaulted
      ∧ (inService p f s).saving = s.saving ∧ (inService p f s).slowPeriod = s.slowPeriod
      ∧ (inService p f s).account = s.account ∧ (inService p f s).drive = s.drive ∧ (inService p f s).adm = s.adm
      ∧ (inService p f s).tanks = s.tanks ∧ (inService p f s).water = s.water
      ∧ (inService p f s).heater = s.heater ∧ (inService p f s).frost = s.frost
      ∧ (inService p f s).motion = s.motion ∧ (inService p f s).light = s.light
      ∧ (inService p f s).runner = s.runner ∧ (inService p f s).restarting = s.restarting
      ∧ (inService p f s).pending = s.pending := by
  unfold inService; simp

theorem inService_get_ne (p q : PortId) (f : Frame) (s : State) (h : q ≠ p) :
    (inService p f s).ports.get q = s.ports.get q := by
  unfold inService
  simp [PerPort.get_set_ne _ _ h]

theorem inService_get (p : PortId) (f : Frame) (s : State) :
    (inService p f s).ports.get p =
      { s.ports.get p with asm := .hunting, line := .looking, slotA := some { frame := f, delivered := true } } := by
  unfold inService
  simp

/-- What the service of a delivered request leaves: answered at once, or under way. -/
def served (p : PortId) (k : ReqKind) (f : Frame) : Delivery → State
  | .answered st rest s => finishSlot p { answerTo f st rest with restart := k == .restart } (settle s)
  | .underWay s => settle s

theorem finishSlot_get_ne (p q : PortId) (x : TxFrame) (s : State) (h : q ≠ p) :
    (finishSlot p x s).ports.get q = s.ports.get q := by
  simp [finishSlot, PerPort.get_set_ne _ _ h]

/-- The service of a request keeps the other ports still and leaves its own port still. -/
theorem served_still (p : PortId) (k : ReqKind) (f : Frame) (body : List Byte) (s : State) (hk : admits p k = true)
    (hq : ∀ q, q ≠ p → s.stillAt q = true) (hB : (s.ports.get p).slotB = none)
    (hu : ∀ u, deliver p k body s = .underWay u → u.stillAt p = true) (q : PortId) :
    (served p k f (deliver p k body s)).stillAt q = true := by
  have hset : ∀ u : State, (settle u).links = u.links := fun u => by simp
  by_cases e : q = p
  · subst e
    cases hd : deliver q k body s with
    | answered st rest u =>
      have hb := deliver_slotB q k body s hB
      rw [hd] at hb
      have hb' : ((settle u).ports.get q).slotB = none := by
        have e := congrArg Port.slotB (link_of_links (hset u) q)
        exact e.trans hb
      simp [served, finishSlot, State.stillAt, Port.still, Port.waiting, hb']
    | underWay u =>
      exact stillAt_of_links u (settle u) q (link_of_links (hset u) q) (by simp) (hu u hd)
  · have hl : ((served p k f (deliver p k body s)).ports.get q).link = (s.ports.get q).link := by
      have h1 := deliver_link_ne p q k body s e
      cases hd : deliver p k body s with
      | answered st rest u =>
        rw [hd] at h1
        simp only [served, finishSlot_get_ne _ _ _ _ e, link_of_links (hset u) q]
        exact h1
      | underWay u =>
        rw [hd] at h1
        simp only [served, link_of_links (hset u) q]
        exact h1
    have hr : (served p k f (deliver p k body s)).stillAt q = s.stillAt q ∨ q = .panel := by
      by_cases hp : q = .panel
      · exact Or.inr hp
      · have hn : (q == PortId.panel) = false := by simpa using hp
        have hA : ∀ t : State, (t.ports.get q).link = (s.ports.get q).link → t.stillAt q = s.stillAt q := by
          intro t ht
          have a1 : (t.ports.get q).slotA = (s.ports.get q).slotA := by simpa [Port.link] using congrArg Port.slotA ht
          have a2 : (t.ports.get q).answer = (s.ports.get q).answer := by simpa [Port.link] using congrArg Port.answer ht
          have a3 : (t.ports.get q).sending = (s.ports.get q).sending := by
            simpa [Port.link] using congrArg Port.sending ht
          simp only [State.stillAt, Port.still, Port.waiting, a1, a2, a3, hn, Bool.false_and]
        exact Or.inl (hA _ hl)
    rcases hr with hr | hr
    · rw [hr]; exact hq q e
    · have hk' : k ≠ .restart := by
        rintro rfl
        cases p <;> simp_all [admits]
      refine stillAt_of_links s _ q hl ?_ (hq q e)
      have h2 := deliver_restarting p k body s hk'
      cases hd : deliver p k body s <;> rw [hd] at h2 <;> simpa [served, Delivery.state] using h2

/-- A request that its port admits and whose length fits, arriving at an open port, is delivered, what it leaves is handed on,
and it is answered and transmitted in the same event. -/
theorem request_served (p : PortId) (k : ReqKind) (tag : Byte) (body : List Byte) (s : State) (ho : s.open_ p = true)
    (hk : admits p k = true) (hl : k.lenFits body.length = true) (hb : body.length ≤ Config.maxBody)
    (hu : ∀ u, deliver p k body (inService p { kind := byte k.code, tag := tag, body := body } s) = .underWay u →
      u.stillAt p = true) :
    requestEvent p k tag body s =
      .next (close (served p k { kind := byte k.code, tag := tag, body := body }
        (deliver p k body (inService p { kind := byte k.code, tag := tag, body := body } s)))) := by
  obtain ⟨h1, h2, h3, hj, h4, h5, h6, h7, h8⟩ := State.open_parts ho
  generalize hf : ({ kind := byte k.code, tag := tag, body := body } : Frame) = f at *
  -- the frame is taken into slot A
  have harr : frameArrives p f s =
      (let s1 := reportArrival p f (s.setPort p { s.ports.get p with asm := .hunting, line := .looking })
       s1.setPort p { s1.ports.get p with slotA := some { frame := f, delivered := false } }) := by
    subst hf
    unfold frameArrives
    have : ¬ Config.maxBody < body.length := by omega
    simp only [this, if_false, frameTaken, code_is_request k, if_false, takeRequest]
    simp [h4, h5]
  generalize hs0 : frameArrives p f s = s0 at *
  have hset : s0.settled = true := by
    have e1 : s0.adm = s.adm := by rw [harr]; simp
    have e2 : s0.runner = s.runner := by rw [harr]; simp
    simpa [State.settled, e1, e2] using h2
  have hjudged : s0.judged = true := by
    rw [harr]
    exact reportArrival_judged p f (s.setPort p { s.ports.get p with asm := .hunting, line := .looking }) hj
  have hget : s0.ports.get p =
      { s.ports.get p with asm := .hunting, line := .looking, slotA := some { frame := f, delivered := false } } := by
    rw [harr]; simp
  have hne : ∀ q, q ≠ p → s0.ports.get q = s.ports.get q := by
    intro q hq; rw [harr]; simp [PerPort.get_set_ne _ _ hq]
  have hres : s0.restarting = s.restarting := by rw [harr]; simp
  have hin : s0.setPort p { s0.ports.get p with slotA := some { frame := f, delivered := true } } = inService p f s := by
    rw [hget, harr]; simp [inService, State.setPort, State.withPorts]
  -- service of slot A
  have hserv : serve p s0 = served p k f (deliver p k body (inService p f s)) := by
    have hsv : servable p s0 = some f := by
      have hp : (p == PortId.panel && s0.restarting) = false := by
        rw [hres]; cases p <;> simp_all
      simp [servable, hget, h7, hp]
    have hj : judgeRequest p f = (.done, some k) := by
      subst hf
      simp [judgeRequest, kindOf_code, hk, hl]
    simp only [serve, hsv, serveFrame, hj, hin]
    have hbody : f.body = body := by rw [← hf]
    rw [hbody]
    cases deliver p k body (inService p f s) <;> rfl
  have hother : ∀ q, q ≠ p → s0.stillAt q = true := by
    intro q hq
    have := stillAt_of_linksIdle h3 q
    simpa [State.stillAt, hne q hq, hres] using this
  have hother' : ∀ q, q ≠ p → (inService p f s).stillAt q = true := by
    intro q hq
    have := stillAt_of_linksIdle h3 q
    simpa [State.stillAt, inService_get_ne p q f s hq] using this
  have hB : ((inService p f s).ports.get p).slotB = none := by simp [inService_get, h6]
  have hafter : ∀ q, (serve p s0).stillAt q = true := by
    intro q; rw [hserv]
    exact served_still p k f body _ hk hother' hB hu q
  have hp0 : s.powered = true := h1
  unfold requestEvent event
  rw [hf, hp0, if_pos rfl, hs0]
  unfold finish
  rw [settle_of_judged s0 hset hjudged, linkWork_one p s0 hother hafter, hserv]
  rfl

end Sys2Proof.Machine
end

