-- ==== Sys2Proof/Laws/Settle.lean ====
section
/-! SUPPORT. The handing of one change or of a due step, and the request whose owner leaves a settled state: what the
statements about single commands rest on. -/

namespace Sys2Proof.Machine

/-! ### Handing on, one thing at a time -/

theorem handOn_grant (n : Nat) (s : State) (g : GrantChange) (rest : List GrantChange) (h : s.adm.changes = g :: rest) :
    handOn (n + 1) s = handOn n (judgeSleep (handGrant g (s.withAdm { s.adm with changes := rest }))) := by
  simp [handOn, h]

theorem handOn_end (n : Nat) (s : State) (r : MotionResult) (h : s.adm.changes = []) (hr : s.runner.handed = some r) :
    handOn (n + 1) s = handOn n (judgeSleep (motionEnded r (s.withRunner { s.runner with handed := none }))) := by
  simp [handOn, h, hr]

theorem handOn_due (n : Nat) (s : State) (h : s.adm.changes = []) (hr : s.runner.handed = none)
    (hd : s.runner.due = true) : handOn (n + 1) s = handOn n (judgeSleep (presentDue s)) := by
  simp [handOn, h, hr, hd]

theorem handOn_of_settled (n : Nat) (s : State) (h : s.settled = true) : handOn n s = s := by
  simp only [State.settled, Bool.and_eq_true, List.isEmpty_iff, Option.isNone_iff_eq_none, Bool.not_eq_true'] at h
  exact handOn_settled n s h.1.1 h.1.2 h.2

/-- The judging before an act of an event and the one after it fall together into the one after it: the conditions hold
before it, or they fail after it, or the part is AWAKE with the idle timer at 0 and the mark clear. -/
def State.judgedThrough (s t : State) : Prop :=
  sleepReady s = true ∨ sleepReady t = false ∨ s.sleep = { state := .awake, idle := 0, quietMark := false }

@[simp] theorem judgeSleep_settled (s : State) : (judgeSleep s).settled = s.settled := by
  simp [State.settled]

/-- One change of grant whose owner leaves nothing more to hand on. -/
theorem settle_grant (s : State) (g : GrantChange) (h : s.adm.changes = [g])
    (hs : (handGrant g (s.withAdm { s.adm with changes := [] })).settled = true)
    (hj : s.judgedThrough (handGrant g (s.withAdm { s.adm with changes := [] }))) :
    settle s = judgeSleep (handGrant g (s.withAdm { s.adm with changes := [] })) := by
  have e : judgeSleep (handGrant g ((judgeSleep s).withAdm { (judgeSleep s).adm with changes := [] }))
      = judgeSleep (handGrant g (s.withAdm { s.adm with changes := [] })) := by
    rw [← judgeSleep_withAdm_changes]
    exact judgeSleep_act (handGrant g) (fun t x n => handGrant_slept t x n g) _ hj
  show handOn (3999 + 1) (judgeSleep s) = _
  rw [handOn_grant _ _ g [] (by simpa using h), e, handOn_of_settled _ _ (by simpa using hs)]

/-- One motion's end that leaves nothing more to hand on. -/
theorem settle_end (s : State) (r : MotionResult) (h : s.adm.changes = []) (hr : s.runner.handed = some r)
    (hs : (motionEnded r (s.withRunner { s.runner with handed := none })).settled = true)
    (hj : s.judgedThrough (motionEnded r (s.withRunner { s.runner with handed := none }))) :
    settle s = judgeSleep (motionEnded r (s.withRunner { s.runner with handed := none })) := by
  have e : judgeSleep (motionEnded r ((judgeSleep s).withRunner { (judgeSleep s).runner with handed := none }))
      = judgeSleep (motionEnded r (s.withRunner { s.runner with handed := none })) := by
    have e0 : (judgeSleep s).withRunner { (judgeSleep s).runner with handed := none }
        = judgeSleep (s.withRunner { s.runner with handed := none }) := by
      rw [judgeSleep_eq, judgeSleep_eq (s.withRunner _)]; rfl
    rw [e0]
    exact judgeSleep_act (motionEnded r) (fun t x n => motionEnded_slept t x n r) _ hj
  show handOn (3999 + 1) (judgeSleep s) = _
  rw [handOn_end _ _ r (by simpa using h) (by simpa using hr), e, handOn_of_settled _ _ (by simpa using hs)]

/-- The due step whose owner leaves nothing more to hand on. -/
theorem settle_due (s : State) (h : s.adm.changes = []) (hr : s.runner.handed = none) (hd : s.runner.due = true)
    (hs : (presentDue s).settled = true) (hj : s.judgedThrough (presentDue s)) :
    settle s = judgeSleep (presentDue s) := by
  have e := judgeSleep_act presentDue (fun t x n => presentDue_slept t x n) s hj
  show handOn (3999 + 1) (judgeSleep s) = _
  rw [handOn_due _ _ (by simpa using h) (by simpa using hr) (by simpa using hd), e,
    handOn_of_settled _ _ (by simpa using hs)]

/-! ### A request that its owner answers -/

/-- The arrival's report commutes with the port's own marks. -/
theorem reportArrival_setPort (p q : PortId) (f : Frame) (x : Port) (s : State) :
    reportArrival p f (s.setPort q x) = (reportArrival p f s).setPort q x := by
  unfold reportArrival sleepFrame
  split
  · rfl
  · cases h : s.sleep.state <;> simp [State.setPort, State.withPorts, State.withSleep, h]

/-! ### A request in service commutes with what its owner does to its own block -/

@[simp] theorem inService_withSettings (p : PortId) (f : Frame) (s : State) (x : Settings) :
    (inService p f s).withSettings x = inService p f (s.withSettings x) := by
  unfold inService reportArrival sleepFrame
  split
  · rfl
  · cases h : s.sleep.state <;> simp [State.setPort, State.withPorts, State.withSleep, State.withSettings, h]

@[simp] theorem inService_withAccount (p : PortId) (f : Frame) (s : State) (x : Account) :
    (inService p f s).withAccount x = inService p f (s.withAccount x) := by
  unfold inService reportArrival sleepFrame
  split
  · rfl
  · cases h : s.sleep.state <;> simp [State.setPort, State.withPorts, State.withSleep, State.withAccount, h]

@[simp] theorem inService_withDrive (p : PortId) (f : Frame) (s : State) (x : DriveSide) :
    (inService p f s).withDrive x = inService p f (s.withDrive x) := by
  unfold inService reportArrival sleepFrame
  split
  · rfl
  · cases h : s.sleep.state <;> simp [State.setPort, State.withPorts, State.withSleep, State.withDrive, h]

@[simp] theorem inService_withAdm (p : PortId) (f : Frame) (s : State) (x : Adm) :
    (inService p f s).withAdm x = inService p f (s.withAdm x) := by
  unfold inService reportArrival sleepFrame
  split
  · rfl
  · cases h : s.sleep.state <;> simp [State.setPort, State.withPorts, State.withSleep, State.withAdm, h]

@[simp] theorem inService_withTanks (p : PortId) (f : Frame) (s : State) (x : PerTank TankRec) :
    (inService p f s).withTanks x = inService p f (s.withTanks x) := by
  unfold inService reportArrival sleepFrame
  split
  · rfl
  · cases h : s.sleep.state <;> simp [State.setPort, State.withPorts, State.withSleep, State.withTanks, h]

@[simp] theorem inService_withWater (p : PortId) (f : Frame) (s : State) (x : Water) :
    (inService p f s).withWater x = inService p f (s.withWater x) := by
  unfold inService reportArrival sleepFrame
  split
  · rfl
  · cases h : s.sleep.state <;> simp [State.setPort, State.withPorts, State.withSleep, State.withWater, h]

@[simp] theorem inService_withHeater (p : PortId) (f : Frame) (s : State) (x : Heater) :
    (inService p f s).withHeater x = inService p f (s.withHeater x) := by
  unfold inService reportArrival sleepFrame
  split
  · rfl
  · cases h : s.sleep.state <;> simp [State.setPort, State.withPorts, State.withSleep, State.withHeater, h]

@[simp] theorem inService_withFrost (p : PortId) (f : Frame) (s : State) (x : Frost) :
    (inService p f s).withFrost x = inService p f (s.withFrost x) := by
  unfold inService reportArrival sleepFrame
  split
  · rfl
  · cases h : s.sleep.state <;> simp [State.setPort, State.withPorts, State.withSleep, State.withFrost, h]

@[simp] theorem inService_withMotion (p : PortId) (f : Frame) (s : State) (x : Motion) :
    (inService p f s).withMotion x = inService p f (s.withMotion x) := by
  unfold inService reportArrival sleepFrame
  split
  · rfl
  · cases h : s.sleep.state <;> simp [State.setPort, State.withPorts, State.withSleep, State.withMotion, h]

@[simp] theorem inService_withLight (p : PortId) (f : Frame) (s : State) (x : Light) :
    (inService p f s).withLight x = inService p f (s.withLight x) := by
  unfold inService reportArrival sleepFrame
  split
  · rfl
  · cases h : s.sleep.state <;> simp [State.setPort, State.withPorts, State.withSleep, State.withLight, h]

@[simp] theorem inService_withRunner (p : PortId) (f : Frame) (s : State) (x : Runner) :
    (inService p f s).withRunner x = inService p f (s.withRunner x) := by
  unfold inService reportArrival sleepFrame
  split
  · rfl
  · cases h : s.sleep.state <;> simp [State.setPort, State.withPorts, State.withSleep, State.withRunner, h]

theorem Port.offer_slotA (x : Port) (n : Notice) (a : Assembler) (l : RxLine) (v : Option Slot) :
    ({ x with asm := a, line := l, slotA := v } : Port).offer n = { x.offer n with asm := a, line := l, slotA := v } := by
  unfold Port.offer
  dsimp only
  split <;> simp_all

@[simp] theorem inService_raise (p : PortId) (f : Frame) (s : State) (k : NoticeKind) (c : RecClass) (i : Nat) :
    raise k c i (inService p f s) = inService p f (raise k c i s) := by
  have e : ∀ w : State, inService p f w = reportArrival p f (w.setPort p { w.ports.get p with
      asm := .hunting, line := .looking, slotA := some { frame := f, delivered := true } }) := by
    intro w
    simp only [inService, ← reportArrival_setPort]
    cases p <;> simp [State.setPort, State.withPorts, PerPort.set, PerPort.get]
  have r : ∀ w : State, raise k c i (reportArrival p f w) = reportArrival p f (raise k c i w) := by
    intro w
    unfold reportArrival sleepFrame
    split
    · rfl
    · cases h : w.sleep.state <;> simp [raise, State.withPorts, State.withSleep, h]
  rw [e, e, r]
  cases p <;>
    simp [raise, State.setPort, State.withPorts, PerPort.set, PerPort.get, Port.offer_slotA]

/-- An event's closing looks at an answered state as judging leaves it. -/
theorem close_finishSlot (p : PortId) (x : TxFrame) (s t : State) (h : judgeSleep s = judgeSleep t) :
    close (finishSlot p x s) = close (finishSlot p x t) := by
  rw [← close_judgeSleep (finishSlot p x s), ← close_judgeSleep (finishSlot p x t), ← finishSlot_judgeSleep,
    ← finishSlot_judgeSleep, h]

/-- A request at an open port whose owner answers and leaves, once handed on, the state `u` in service but for the judging of
the sleep conditions: it is answered and the event is closed. -/
theorem request_concluded (p : PortId) (k : ReqKind) (tag : Byte) (body : List Byte) (s u v : State) (st : Status)
    (rest : List Byte) (ho : s.open_ p = true) (hk : admits p k = true) (hl : k.lenFits body.length = true)
    (hb : body.length ≤ Config.maxBody)
    (hd : deliver p k body (inService p (reqFrame k tag body) s) = .answered st rest v)
    (hv : judgeSleep (settle v) = judgeSleep (inService p (reqFrame k tag body) u)) (hA : (u.ports.get p).slotA = none)
    (hB : (u.ports.get p).slotB = none) :
    requestEvent p k tag body s = .next (concluded p k tag st rest u) := by
  have hrep : ∀ w, reportArrival p (reqFrame k tag body) w = reportArrival p (reqFrame k tag []) w := fun w => rfl
  rw [request_served p k tag body s ho hk hl hb
    (by intro w hw; change deliver p k body (inService p (reqFrame k tag body) s) = _ at hw; rw [hd] at hw; cases hw)]
  change Host.Outcome.next (close (served p k _ (deliver p k body (inService p (reqFrame k tag body) s)))) = _
  rw [hd]
  simp only [served, concluded]
  rw [close_finishSlot _ _ _ _ hv]
  congr 2
  have hs : ∀ w, (reportArrival p (reqFrame k tag body) w).ports = w.ports := by
    intro w; simp
  simp only [inService, reportArrival_setPort, hrep]
  have hg : (reportArrival p (reqFrame k tag []) u).ports.get p = u.ports.get p := by simp
  generalize hw : reportArrival p (reqFrame k tag []) u = w at *
  cases p <;>
    simp_all [finishSlot, State.setPort, State.withPorts, PerPort.set, PerPort.get, answerTo, reqFrame]

/-- A request at an open port whose owner leaves the state as it is. -/
theorem request_answered (p : PortId) (k : ReqKind) (tag : Byte) (body : List Byte) (s : State) (st : Status)
    (rest : List Byte) (ho : s.open_ p = true) (hk : admits p k = true) (hl : k.lenFits body.length = true)
    (hb : body.length ≤ Config.maxBody)
    (hd : deliver p k body (inService p (reqFrame k tag body) s)
      = .answered st rest (inService p (reqFrame k tag body) s)) :
    requestEvent p k tag body s = .next (concluded p k tag st rest s) := by
  obtain ⟨-, h2, -, -, -, h5, h6, -, -⟩ := State.open_parts ho
  refine request_concluded p k tag body s s _ st rest ho hk hl hb hd ?_ h5 h6
  rw [settle_of_settled _ (by simpa [State.settled] using h2), judgeSleep_judgeSleep]

/-- A request whose owner leaves a settled state with the links as they were. -/
theorem request_left (p : PortId) (k : ReqKind) (tag : Byte) (body : List Byte) (s u : State) (st : Status)
    (rest : List Byte) (ho : s.open_ p = true) (hk : admits p k = true) (hl : k.lenFits body.length = true)
    (hb : body.length ≤ Config.maxBody)
    (hd : deliver p k body (inService p (reqFrame k tag body) s)
      = .answered st rest (inService p (reqFrame k tag body) u))
    (hu : u.settled = true) (hlinks : u.links = s.links) :
    requestEvent p k tag body s = .next (concluded p k tag st rest u) := by
  obtain ⟨-, -, -, -, -, h5, h6, -, -⟩ := State.open_parts ho
  have e := link_of_links hlinks p
  have eA : (u.ports.get p).slotA = (s.ports.get p).slotA := by simpa [Port.link] using congrArg Port.slotA e
  have eB : (u.ports.get p).slotB = (s.ports.get p).slotB := by simpa [Port.link] using congrArg Port.slotB e
  refine request_concluded p k tag body s u _ st rest ho hk hl hb hd ?_ (by rw [eA, h5]) (by rw [eB, h6])
  rw [settle_of_settled _ (by simpa [State.settled] using hu), judgeSleep_judgeSleep]

@[simp] theorem sleepReady_inService (p : PortId) (f : Frame) (s : State) :
    sleepReady (inService p f s) = sleepReady s := by
  simp [sleepReady]

/-- The arrival's report leaves a part AWAKE with the idle timer at 0 and the mark clear as it is. -/
theorem inService_awake (p : PortId) (f : Frame) (s : State)
    (h : s.sleep = { state := .awake, idle := 0, quietMark := false }) :
    (inService p f s).sleep = { state := .awake, idle := 0, quietMark := false } := by
  unfold inService reportArrival sleepFrame
  by_cases hp : p = .vehicle ∧ f.kind.toNat = ReqKind.drive.code
  · simp [hp, h]
  · simp [hp, h]

/-- A request whose owner leaves one change of grant to hand on, with the links as they were. -/
theorem request_granted (p : PortId) (k : ReqKind) (tag : Byte) (body : List Byte) (s w u : State) (st : Status)
    (rest : List Byte) (g : GrantChange) (ho : s.open_ p = true) (hk : admits p k = true)
    (hl : k.lenFits body.length = true) (hb : body.length ≤ Config.maxBody)
    (hd : deliver p k body (inService p (reqFrame k tag body) s)
      = .answered st rest (inService p (reqFrame k tag body) w))
    (hw : w.adm.changes = [g])
    (hg : handGrant g (inService p (reqFrame k tag body) (w.withAdm { w.adm with changes := [] }))
      = inService p (reqFrame k tag body) u)
    (hu : u.settled = true) (hj : w.judgedThrough u) (hlinks : u.links = s.links) :
    requestEvent p k tag body s = .next (concluded p k tag st rest u) := by
  obtain ⟨-, -, -, -, -, h5, h6, -, -⟩ := State.open_parts ho
  have e := link_of_links hlinks p
  have eA : (u.ports.get p).slotA = (s.ports.get p).slotA := by simpa [Port.link] using congrArg Port.slotA e
  have eB : (u.ports.get p).slotB = (s.ports.get p).slotB := by simpa [Port.link] using congrArg Port.slotB e
  refine request_concluded p k tag body s u _ st rest ho hk hl hb hd ?_ (by rw [eA, h5]) (by rw [eB, h6])
  have hc : (inService p (reqFrame k tag body) w).adm.changes = [g] := by simpa using hw
  have hg' : handGrant g ((inService p (reqFrame k tag body) w).withAdm
      { (inService p (reqFrame k tag body) w).adm with changes := [] }) = inService p (reqFrame k tag body) u := by
    simpa using hg
  rw [settle_grant _ g hc, hg', judgeSleep_judgeSleep]
  · rw [hg']
    simpa [State.settled] using hu
  · rw [hg']
    rcases hj with h | h | h
    · exact Or.inl (by simpa using h)
    · exact Or.inr (Or.inl (by simpa using h))
    · exact Or.inr (Or.inr (inService_awake p _ w h))

/-- An event that leaves a settled state with the links as they were. -/
theorem event_left (f : State → State) (s u : State) (hs : s.calm = true) (hf : f s = u) (hu : u.settled = true)
    (hl : u.links = s.links) (hr : u.restarting = s.restarting) : event f s = .next (close u) := by
  subst hf
  have e := settle_of_settled _ hu
  rw [event_of_settled f s hs (by rw [e]; simpa using hl) hr, e, close_judgeSleep]

/-- An event that leaves one change of grant to hand on, with the links as they were. -/
theorem event_granted (f : State → State) (s w u : State) (g : GrantChange) (hs : s.calm = true) (hf : f s = w)
    (hw : w.adm.changes = [g]) (hg : handGrant g (w.withAdm { w.adm with changes := [] }) = u)
    (hu : u.settled = true) (hj : w.judgedThrough u) (hl : u.links = s.links) (hr : w.restarting = s.restarting) :
    event f s = .next (close u) := by
  have e : settle (f s) = judgeSleep u := by
    rw [hf, settle_grant _ g hw (by rw [hg]; exact hu) (by rw [hg]; exact hj), hg]
  rw [event_of_settled f s hs (by rw [e]; simpa using hl) (by rw [hf]; exact hr), e, close_judgeSleep]

/-- What calm says. -/
theorem State.calm_parts {s : State} (h : s.calm = true) :
    s.powered = true ∧ s.adm.changes = [] ∧ s.runner.handed = none ∧ s.runner.due = false := by
  simp only [State.calm, State.settled, Bool.and_eq_true, List.isEmpty_iff, Option.isNone_iff_eq_none,
    Bool.not_eq_true'] at h
  exact ⟨h.1.1.1, h.1.1.2.1.1, h.1.1.2.1.2, h.1.1.2.2⟩

/-- A calm state's sleep conditions are judged. -/
theorem State.calm_judged {s : State} (h : s.calm = true) : s.judged = true := by
  simp only [State.calm, Bool.and_eq_true] at h
  exact h.2

/-- An open port's state is calm. -/
theorem State.open_calm {p : PortId} {s : State} (h : s.open_ p = true) : s.calm = true := by
  simp only [State.open_, Bool.and_eq_true] at h
  exact h.1.1.1.1.1

/-! ### The admission controller's requests and releases, case by case -/

/-- A pass with nothing waiting, or in LVD, changes nothing. -/
theorem Adm.pass_of_none (a : Adm) (h : a.lvd = true ∨ a.queue = []) : a.pass = a := by
  rcases h with h | h <;> simp [Adm.pass, Adm.walk, h]

theorem release_of_off (e : Fin 20) (s : State) (h : s.adm.entries[e].state = .off) : release e s = s := by
  simp only [release, Adm.release, h, if_true]
  rfl

theorem release_of_passive (e : Fin 20) (s : State) (he : e ≠ lightEntry) (h : s.adm.entries[e].state ≠ .off)
    (hp : s.passive = true) : release e s = s.withAdm (s.adm.entryOff e) := by
  have h0 : ∀ a : Adm, a.lvd = s.adm.lvd → a.queue = s.adm.queue.erase e → a.pass = a := by
    intro a h1 h2
    apply Adm.pass_of_none
    simp only [State.passive, Bool.or_eq_true, List.isEmpty_iff] at hp
    rcases hp with hp | hp
    · exact Or.inl (h1.trans hp)
    · exact Or.inr (by simp [h2, hp])
  simp only [release, Adm.release, h, if_false, he]
  rw [h0] <;> rfl

/-- A PROTECTED request, or an ESSENTIAL one in NORMAL, for an entry that stands otherwise and holds no counted grant. -/
theorem request_uncounted (e : Fin 20) (c : LoadClass) (r : Nat) (s : State)
    (hc : c = .prot ∨ (c = .essential ∧ s.adm.lvd = false))
    (hs : ¬ (s.adm.entries[e].state ≠ .off ∧ s.adm.entries[e].cls = c ∧ s.adm.entries[e].rating = r))
    (hu : s.adm.uncounted e = true) :
    request e c r s = s.withAdm ((s.adm.entryGranted e c r).note e .granted) := by
  simp only [Adm.uncounted, Bool.not_eq_true'] at hu
  have hs' : (s.adm.entries[e].state != .off && s.adm.entries[e].cls == c && s.adm.entries[e].rating == r) = false := by
    cases hb : (s.adm.entries[e].state != .off && s.adm.entries[e].cls == c && s.adm.entries[e].rating == r) with
    | false => rfl
    | true =>
      simp only [Bool.and_eq_true, bne_iff_ne, beq_iff_eq] at hb
      exact absurd ⟨hb.1.1, hb.1.2, hb.2⟩ hs
  rcases hc with rfl | ⟨rfl, hl⟩
  · simp only [request, Adm.request, hs', hu, Bool.false_eq_true, if_false]
    rfl
  · simp only [request, Adm.request, hs', hu, hl, Bool.false_eq_true, if_false]
    rfl

/-! ### The load table's rows -/

@[simp] theorem Adm.setEntry_same (a : Adm) (e : Fin 20) (x : Entry) : (a.setEntry e x).entries[e] = x := by
  simp [Adm.setEntry]

theorem Adm.setEntry_other (a : Adm) (e d : Fin 20) (x : Entry) (h : d ≠ e) :
    (a.setEntry e x).entries[d] = a.entries[d] := by
  have : ¬ (e : Nat) = d := fun hv => h (Fin.ext hv.symm)
  simp [Adm.setEntry, this]

@[simp] theorem Adm.unlist_entries (a : Adm) (e : Fin 20) : (a.unlist e).entries = a.entries := rfl
@[simp] theorem Adm.unlist_changes (a : Adm) (e : Fin 20) : (a.unlist e).changes = a.changes := rfl
@[simp] theorem Adm.unlist_lvd (a : Adm) (e : Fin 20) : (a.unlist e).lvd = a.lvd := rfl
@[simp] theorem Adm.setEntry_changes (a : Adm) (e : Fin 20) (x : Entry) : (a.setEntry e x).changes = a.changes := rfl
@[simp] theorem Adm.setEntry_lvd (a : Adm) (e : Fin 20) (x : Entry) : (a.setEntry e x).lvd = a.lvd := rfl
@[simp] theorem Adm.entryOff_changes (a : Adm) (e : Fin 20) : (a.entryOff e).changes = a.changes := rfl
@[simp] theorem Adm.entryGranted_changes (a : Adm) (e : Fin 20) (c : LoadClass) (r : Nat) :
    (a.entryGranted e c r).changes = a.changes := rfl
@[simp] theorem Adm.entryGranted_isGranted (a : Adm) (e : Fin 20) (c : LoadClass) (r : Nat) :
    (a.entryGranted e c r).isGranted e = true := by
  simp only [Adm.isGranted, Adm.entryGranted, Adm.setEntry_same]; rfl
@[simp] theorem Adm.note_changes (a : Adm) (e : Fin 20) (c : Cause) (h : e ≠ lightEntry) :
    (a.note e c).changes = a.changes ++ [{ entry := e, cause := c, floor := 0, amount := a.entries[e].grant }] := by
  simp [Adm.note, h]

/-- A note whose change has been handed leaves the table as it was. -/
theorem Adm.note_handed (a : Adm) (e : Fin 20) (c : Cause) (h : a.changes = []) :
    { a.note e c with changes := [] } = a := by
  cases a; simp_all [Adm.note]

@[simp] theorem Adm.entryListed_changes (a : Adm) (e : Fin 20) (c : LoadClass) (r : Nat) :
    (a.entryListed e c r).changes = a.changes := rfl
@[simp] theorem Adm.entryListed_isGranted (a : Adm) (e : Fin 20) (c : LoadClass) (r : Nat) :
    (a.entryListed e c r).isGranted e = true := Adm.entryGranted_isGranted a e c r
@[simp] theorem Adm.entryWaiting_changes (a : Adm) (e : Fin 20) (c : LoadClass) (r : Nat) :
    (a.entryWaiting e c r).changes = a.changes := rfl

theorem Adm.setEntry_twice (a : Adm) (e : Fin 20) (x y : Entry) : (a.setEntry e x).setEntry e y = a.setEntry e y := by
  simp [Adm.setEntry]

/-- A counted entry that asks from OFF with nothing else waiting, in NORMAL: granted at once where it fits. -/
theorem request_fits (e : Fin 20) (c : LoadClass) (r : Nat) (s : State) (he : e ≠ lightEntry)
    (hc : c = .comfort ∨ c = .deferrable) (ho : s.adm.entries[e].state = .off) (hl : s.adm.lvd = false)
    (hq : s.adm.queue = []) (hr : s.adm.room e c r = true) :
    request e c r s = s.withAdm ((s.adm.entryListed e c r).note e .granted) := by
  have hj : s.adm.join e c r = (s.adm.entryListed e c r).note e .granted := by
    have hq' : s.adm.queue.erase e = [] := by simp [hq]
    have hf : ({ (s.adm.unlist e).setEntry e { cls := c, rating := r, state := .waiting, grant := 0, pass := 0 } with
        queue := s.adm.queue.erase e ++ [e] } : Adm).fits e = true := by
      simp only [Adm.room, Bool.and_eq_true, decide_eq_true_eq] at hr
      simp only [Adm.fits, Adm.setEntry, Adm.unlist]
      simp only [Adm.sumS, Adm.sumD, Adm.entryWaiting, Adm.setEntry, Adm.unlist] at hr ⊢
      simp only [Fin.getElem_fin, Vector.getElem_set_self, Config.admissionMargin] at hr ⊢
      rw [Bool.and_eq_true, decide_eq_true_eq]
      exact hr
    unfold Adm.join
    simp only [Adm.setEntry_lvd, Adm.unlist_lvd, hl, Bool.false_eq_true, if_false]
    unfold Adm.pass
    simp only [hl, Bool.false_eq_true, if_false, Adm.setEntry, Adm.unlist, hq', List.nil_append] at hf ⊢
    simp only [Adm.walk, he, if_false, hf, if_true]
    simp [Adm.grantQueued, Adm.entryListed, Adm.entryGranted, Adm.setEntry, Adm.unlist, hq', hl]
  have hs : (s.adm.entries[e].state != EntryState.off) = false := by rw [ho]; rfl
  have hw : (s.adm.entries[e].state == EntryState.waiting || s.adm.entries[e].state == EntryState.shed) = false := by
    rw [ho]; rfl
  rcases hc with rfl | rfl <;>
    simp only [request, Adm.request, hs, hw, hj, Bool.false_and, Bool.false_eq_true, if_false]

/-- A counted entry that asks from OFF in LVD waits at the tail of the resume list. -/
theorem request_resumes (e : Fin 20) (c : LoadClass) (r : Nat) (s : State)
    (hc : c = .comfort ∨ c = .deferrable) (ho : s.adm.entries[e].state = .off) (hl : s.adm.lvd = true) :
    request e c r s = s.withAdm { s.adm.entryWaiting e c r with resume := s.adm.resume.erase e ++ [e] } := by
  have hs : (s.adm.entries[e].state != EntryState.off) = false := by rw [ho]; rfl
  have hw : (s.adm.entries[e].state == EntryState.waiting || s.adm.entries[e].state == EntryState.shed) = false := by
    rw [ho]; rfl
  rcases hc with rfl | rfl <;>
    simp only [request, Adm.request, hs, hw, Bool.false_and, Bool.false_eq_true, if_false, Adm.join, Adm.setEntry_lvd,
      Adm.unlist_lvd, hl, if_true] <;>
    simp [Adm.entryWaiting, Adm.setEntry, Adm.unlist, hl]

/-! ### What no service touches -/

/-- A port's service leaves the supply, the store, its flag, the sample period, the account and the queue of commands. -/
@[simp] theorem serve_frame (p : PortId) (s : State) :
    (serve p s).powered = s.powered ∧ (serve p s).store = s.store ∧ (serve p s).defaulted = s.defaulted
      ∧ (serve p s).slowPeriod = s.slowPeriod ∧ (serve p s).account = s.account ∧ (serve p s).pending = s.pending := by
  unfold serve
  split
  · simp
  · rename_i f _
    unfold serveFrame
    split
    · simp
    · rename_i k _
      have hd := deliver_frame p k f.body (s.setPort p { s.ports.get p with slotA := some { frame := f, delivered := true } })
      dsimp only
      split <;> rename_i heq <;> rw [heq] at hd <;> simp only [Delivery.state] at hd <;> simp [hd]

@[simp] theorem linkWork_frame (s : State) :
    (linkWork s).powered = s.powered ∧ (linkWork s).store = s.store ∧ (linkWork s).defaulted = s.defaulted
      ∧ (linkWork s).slowPeriod = s.slowPeriod ∧ (linkWork s).account = s.account
      ∧ (linkWork s).pending = s.pending := by
  simp [linkWork, linkRound]

@[simp] theorem finish_frame (s : State) :
    (finish s).powered = s.powered ∧ (finish s).store = s.store ∧ (finish s).defaulted = s.defaulted
      ∧ (finish s).slowPeriod = s.slowPeriod ∧ (finish s).account = s.account ∧ (finish s).pending = s.pending := by
  simp [finish]

/-! ### One block replaced twice -/

@[simp] theorem State.withSettings_withSettings (s : State) (x y : Settings) : (s.withSettings x).withSettings y = s.withSettings y := rfl
@[simp] theorem State.withAccount_withAccount (s : State) (x y : Account) : (s.withAccount x).withAccount y = s.withAccount y := rfl
@[simp] theorem State.withDrive_withDrive (s : State) (x y : DriveSide) : (s.withDrive x).withDrive y = s.withDrive y := rfl
@[simp] theorem State.withAdm_withAdm (s : State) (x y : Adm) : (s.withAdm x).withAdm y = s.withAdm y := rfl
@[simp] theorem State.withTanks_withTanks (s : State) (x y : PerTank TankRec) : (s.withTanks x).withTanks y = s.withTanks y := rfl
@[simp] theorem State.withWater_withWater (s : State) (x y : Water) : (s.withWater x).withWater y = s.withWater y := rfl
@[simp] theorem State.withHeater_withHeater (s : State) (x y : Heater) : (s.withHeater x).withHeater y = s.withHeater y := rfl
@[simp] theorem State.withFrost_withFrost (s : State) (x y : Frost) : (s.withFrost x).withFrost y = s.withFrost y := rfl
@[simp] theorem State.withMotion_withMotion (s : State) (x y : Motion) : (s.withMotion x).withMotion y = s.withMotion y := rfl
@[simp] theorem State.withLight_withLight (s : State) (x y : Light) : (s.withLight x).withLight y = s.withLight y := rfl
@[simp] theorem State.withRunner_withRunner (s : State) (x y : Runner) : (s.withRunner x).withRunner y = s.withRunner y := rfl
@[simp] theorem State.withPorts_withPorts (s : State) (x y : PerPort Port) : (s.withPorts x).withPorts y = s.withPorts y := rfl
@[simp] theorem State.withSleep_withSleep (s : State) (x y : Sleep) : (s.withSleep x).withSleep y = s.withSleep y := rfl

/-! ### The owners of the entries -/

@[simp] theorem handGrant_hold (c : Cause) (f k : Nat) (s : State) :
    handGrant { entry := holdEntry, cause := c, floor := f, amount := k } s = s := rfl
@[simp] theorem handGrant_motor (c : Cause) (f k : Nat) (s : State) :
    handGrant { entry := motorEntry, cause := c, floor := f, amount := k } s = motorGrant c s := rfl
@[simp] theorem handGrant_fan (c : Cause) (f k : Nat) (s : State) :
    handGrant { entry := fanEntry, cause := c, floor := f, amount := k } s = fanGrant c s := rfl
@[simp] theorem handGrant_glow (c : Cause) (f k : Nat) (s : State) :
    handGrant { entry := glowEntry, cause := c, floor := f, amount := k } s = glowGrant c s := rfl
@[simp] theorem handGrant_pump (c : Cause) (f k : Nat) (s : State) :
    handGrant { entry := pumpEntry, cause := c, floor := f, amount := k } s = pumpGrant c s := rfl
@[simp] theorem handGrant_pad (c : Cause) (f k : Nat) (s : State) :
    handGrant { entry := padEntry, cause := c, floor := f, amount := k } s = s := rfl
@[simp] theorem handGrant_light (c : Cause) (f k : Nat) (s : State) :
    handGrant { entry := lightEntry, cause := c, floor := f, amount := k } s
      = lightGrant { entry := lightEntry, cause := c, floor := f, amount := k } s := rfl

@[simp] theorem hold_not_light : ¬ holdEntry = lightEntry := by decide
@[simp] theorem motor_not_light : ¬ motorEntry = lightEntry := by decide
@[simp] theorem fan_not_light : ¬ fanEntry = lightEntry := by decide
@[simp] theorem glow_not_light : ¬ glowEntry = lightEntry := by decide
@[simp] theorem pump_not_light : ¬ pumpEntry = lightEntry := by decide
@[simp] theorem pad_not_light : ¬ padEntry = lightEntry := by decide

end Sys2Proof.Machine
end

