-- ==== Sys2Proof/Laws/Lapsed.lean ====
section
/-! SUPPORT. An entry condition of parked sleep that has failed within an event (`lapsed`): the part stays out of PARKED_SLEEP
with the idle timer at 0 and the mark clear whatever the rest of the event does. -/

namespace Sys2Proof.Machine

theorem lapsed_of_sleep {s t : State} (h : t.sleep = s.sleep) (hs : s.lapsed) : t.lapsed := by
  unfold State.lapsed at *; rw [h]; exact hs

theorem conditionFails_lapsed (s : State) : (conditionFails s).lapsed := by
  unfold State.lapsed conditionFails wake
  cases hs : s.sleep.state <;> simp

/-- Where the conditions have been judged, one that fails is a failure of the event. -/
theorem lapsed_of_judged (s : State) (h : s.judged = true) (hr : sleepReady s = false) : s.lapsed := by
  unfold State.judged at h
  rw [hr] at h
  have : s.sleep = { state := .awake, idle := 0, quietMark := false } := by simpa using h
  unfold State.lapsed
  rw [this]
  simp

theorem judgeSleep_lapsed (s : State) (h : sleepReady s = false ∨ s.lapsed) : (judgeSleep s).lapsed := by
  unfold judgeSleep
  split
  · rename_i hr
    rcases h with h | h
    · rw [h] at hr; cases hr
    · unfold State.lapsed at *
      cases hs : s.sleep.state <;> simp_all
  · exact conditionFails_lapsed s

theorem wakeCause_lapsed (s : State) (h : s.lapsed) : (wakeCause s).lapsed := by
  unfold State.lapsed wakeCause at *
  cases hs : s.sleep.state <;> simp_all

theorem quietReport_lapsed (s : State) (h : s.lapsed) : (quietReport s).lapsed := by
  unfold quietReport
  split
  · rename_i hq
    simp [h.2.2] at hq
  · exact h

/-- Handing on leaves the conditions judged where it finds them so. -/
theorem handOn_judged (n : Nat) : ∀ s : State, s.judged = true → (handOn n s).judged = true := by
  induction n with
  | zero => intro s h; exact h
  | succ n ih =>
    intro s h
    unfold handOn
    split
    · exact ih _ (judgeSleep_judged _)
    · split
      · exact ih _ (judgeSleep_judged _)
      · split
        · exact ih _ (judgeSleep_judged _)
        · exact h

theorem settle_judged (s : State) : (settle s).judged = true := handOn_judged _ _ (judgeSleep_judged s)

theorem finish_judged (s : State) : (finish s).judged = true := judgeSleep_judged _

/-- What an event hands on. -/
theorem handOn_lapsed (n : Nat) : ∀ s : State, s.lapsed → (handOn n s).lapsed := by
  induction n with
  | zero => intro s h; exact h
  | succ n ih =>
    intro s h
    unfold handOn
    split
    · exact ih _ (judgeSleep_lapsed _ (Or.inr (lapsed_of_sleep (by simp) h)))
    · split
      · exact ih _ (judgeSleep_lapsed _ (Or.inr (lapsed_of_sleep (by simp) h)))
      · split
        · exact ih _ (judgeSleep_lapsed _ (Or.inr (lapsed_of_sleep (by simp) h)))
        · exact h

/-- An act that leaves a condition failing, or comes after a failure in the event. -/
theorem settle_lapsed (s : State) (h : sleepReady s = false ∨ s.lapsed) : (settle s).lapsed :=
  handOn_lapsed _ _ (judgeSleep_lapsed s h)

theorem writeLevels_lapsed (p : PortId) : ∀ (l : List Nat) (s : State), s.lapsed → (writeLevels p l s).lapsed
  | [], _, h => h
  | _ :: rest, _, h => writeLevels_lapsed p rest _ (judgeSleep_lapsed _ (Or.inr (lapsed_of_sleep rfl h)))

theorem levelsRequest_lapsed (p : PortId) (first last mode : Nat) (list : List Nat) (s : State) (h : s.lapsed) :
    (levelsRequest p first last mode list s).2.lapsed := by
  unfold levelsRequest
  split
  · exact h
  · split
    · exact h
    · exact lapsed_of_sleep (by simp) (writeLevels_lapsed p list
        (s.withLight (openWindow p first last (mode == 1) s.light)) (lapsed_of_sleep rfl h))

theorem driveReport_lapsed (ign eng crk hb speed : Nat) (s : State) (h : s.lapsed) :
    (driveReport ign eng crk hb speed s).2.lapsed := by
  unfold driveReport
  split
  · exact ⟨h.1, h.2.1, rfl⟩
  · dsimp only
    split
    · exact quietReport_lapsed _ (lapsed_of_sleep (by simp) h)
    · exact wakeCause_lapsed _ (lapsed_of_sleep (by simp) h)

/-- No request of a master that the event delivers later undoes the failure. -/
theorem deliver_lapsed (p : PortId) (k : ReqKind) (body : List Byte) (s : State) (h : s.lapsed) :
    (deliver p k body s).state.lapsed := by
  cases k with
  | levels => exact levelsRequest_lapsed p _ _ _ _ s h
  | drive => exact driveReport_lapsed _ _ _ _ _ s h
  | save =>
    simp only [deliver, saveRequest]
    split <;> exact h
  | _ => exact lapsed_of_sleep (by simp [deliver, Delivery.state, plain]) h

theorem serve_lapsed (p : PortId) (s : State) (h : s.lapsed) : (serve p s).lapsed := by
  unfold serve
  split
  · exact h
  · rename_i f _
    unfold serveFrame
    split
    · refine lapsed_of_sleep (s := refusedDrive p f s) (by simp) ?_
      unfold refusedDrive
      split
      · exact ⟨h.1, h.2.1, rfl⟩
      · exact h
    · rename_i k _
      have hd := deliver_lapsed p k f.body
        (s.setPort p { s.ports.get p with slotA := some { frame := f, delivered := true } }) (lapsed_of_sleep rfl h)
      dsimp only
      split <;> rename_i heq <;> rw [heq] at hd
      · rename_i s1
        exact lapsed_of_sleep (s := settle s1) (by simp) (settle_lapsed _ (Or.inr hd))
      · exact settle_lapsed _ (Or.inr hd)

theorem linkWork_lapsed (s : State) (h : s.lapsed) : (linkWork s).lapsed := by
  have round : ∀ t : State, t.lapsed → (linkRound t).lapsed := fun t ht =>
    lapsed_of_sleep (by simp [linkRound]) (serve_lapsed .vehicle _ (serve_lapsed .remote _ (serve_lapsed .panel _ ht)))
  exact round _ (round _ (round _ h))

/-- The whole of an event whose own act leaves a condition failing, or in which one has failed. -/
theorem finish_lapsed (s : State) (h : sleepReady s = false ∨ s.lapsed) : (finish s).lapsed :=
  judgeSleep_lapsed _ (Or.inr (linkWork_lapsed _ (settle_lapsed s h)))

end Sys2Proof.Machine
end

