-- ==== Sys2Proof/Laws/Owners.lean ====
section
/-! SUPPORT. What the owners' shared operations do where they have little to do: a release that no pass follows, a frost guard
that keeps the drain closed, a purge that begins, a grant of a general output; and how the counted sums move with one
entry. -/

namespace Sys2Proof.Machine

/-- The frost guard opens no drain (R106). -/
theorem frostRelease_of_frostQuiet (s : State) (h : s.frostQuiet = true) : frostRelease s = s := by
  have : releaseReason s = none := by
    simp only [State.frostQuiet] at h
    unfold releaseReason
    cases hg : s.settings.frostGuard <;> cases hd : s.frost.drainOpen <;> simp_all
    cases hw : s.frost.water <;> simp_all
  simp [frostRelease, this]

/-- The frost guard opens no drain while the heater is in PURGE (R106). -/
theorem frostRelease_in_purge (s : State) (h : s.heater.state = .purge) : frostRelease s = s := by
  have : releaseReason s = none := by simp [releaseReason, h]
  simp [frostRelease, this]

/-- The release of an entry other than lighting where no pass follows with an effect, or of one that is OFF (R45). -/
theorem release_eq_withdrawn (e : Fin 20) (he : e ≠ lightEntry) (s : State)
    (h : (s.passive || s.adm.entries[e].state == .off) = true) : release e s = s.withAdm (s.adm.withdrawn e) := by
  unfold Adm.withdrawn
  by_cases ho : s.adm.entries[e].state = .off
  · rw [release_of_off e s ho]
    simp [-Fin.getElem_fin, ho]
    rfl
  · simp only [ho, ↓reduceIte]
    exact release_of_passive e s he ho (by simpa [-Fin.getElem_fin, ho] using h)

/-- A purge that begins where nothing but entries 2 and 3 changes (R96). -/
theorem purge_of_purgeReady (r : PurgeReason) (s : State) (h : s.purgeReady = true) :
    purge r s
      = (s.withHeater { (s.heater.entering .purge) with reason := r }).withAdm (s.adm.purging.note fanEntry .granted) := by
  simp only [State.purgeReady, Bool.and_eq_true, Bool.not_eq_true'] at h
  obtain ⟨⟨h1, h2⟩, h3⟩ := h
  unfold purge
  have e1 := release_eq_withdrawn glowEntry (by decide)
    ((enterState .purge s).withHeater { (enterState .purge s).heater with reason := r })
    (by simpa [-Fin.getElem_fin, enterState, State.passive] using h1)
  dsimp only
  rw [e1]
  have hfan : ∀ a : Adm, (a.withdrawn glowEntry).entries[fanEntry] = a.entries[fanEntry] := by
    intro a
    unfold Adm.withdrawn
    split
    · rfl
    · exact Adm.setEntry_other _ _ _ _ (by decide)
  rw [request_uncounted fanEntry .prot 180 _ (Or.inl rfl)]
  · rw [frostRelease_in_purge]
    · simp [-Fin.getElem_fin, enterState, Heater.entering, Adm.purging]
    · simp [-Fin.getElem_fin, enterState]
  · simp [-Fin.getElem_fin, enterState, hfan]
    intro a b
    simpa [-Fin.getElem_fin, a, b] using h3
  · have : ∀ a : Adm, (a.withdrawn glowEntry).uncounted fanEntry = a.uncounted fanEntry := by
      intro a
      simp only [Adm.uncounted, hfan]
    simp [-Fin.getElem_fin, enterState]
    exact (this _).trans h2

/-- A change of a general output's grant asks nothing of any owner (R47). -/
theorem handGrant_general (e : Fin 20) (h : 7 ≤ e.val) (c : Cause) (f k : Nat) (s : State) :
    handGrant { entry := e, cause := c, floor := f, amount := k } s = s := by
  unfold handGrant
  obtain ⟨n, hn⟩ := e
  dsimp only at h ⊢
  split <;> first | rfl | omega

/-- A sum over a list with one place replaced. -/
theorem sum_map_set (g : Entry → Nat) : ∀ (l : List Entry) (n : Nat) (x : Entry) (h : n < l.length),
    ((l.set n x).map g).sum + g l[n] = (l.map g).sum + g x
  | [], n, x, h => by simp at h
  | y :: l, 0, x, h => by
    simp
    omega
  | y :: l, n + 1, x, h => by
    have := sum_map_set g l n x (by simpa using h)
    simp at this ⊢
    omega

/-- S with one entry replaced (R54). -/
theorem sumS_setEntry (a : Adm) (e : Fin 20) (x : Entry) :
    (a.setEntry e x).sumS + (if a.entries[e].counted then a.entries[e].grant else 0)
      = a.sumS + (if x.counted then x.grant else 0) := by
  have := sum_map_set (fun x => if x.counted then x.grant else 0) a.entries.toList e.val x (by simp)
  simp [Adm.sumS, Adm.setEntry, Vector.toList_set] at this ⊢
  exact this

/-- D with one entry replaced (R54). -/
theorem sumD_setEntry (a : Adm) (e : Fin 20) (x : Entry) :
    (a.setEntry e x).sumD + (if a.entries[e].cls == .deferrable then a.entries[e].grant else 0)
      = a.sumD + (if x.cls == .deferrable then x.grant else 0) := by
  have := sum_map_set (fun x => if x.cls == .deferrable then x.grant else 0) a.entries.toList e.val x (by simp)
  simp [Adm.sumD, Adm.setEntry, Vector.toList_set] at this ⊢
  exact this

end Sys2Proof.Machine
end

