-- ==== Sys2Proof/Machine/Outputs.lean ====
section
/-! DEFINITION. The outputs the part drives at its load, sensor and actuator connections, read from the state: each takes its
value at the moment the state behind it changes. A part without supply drives none of them. -/

namespace Sys2Proof.Machine

/-- The fan's speeds (sections 5.2, 5.4). -/
inductive FanSpeed where
  | off | low | medium | high
  deriving DecidableEq, Repr

/-- The frost hold output: on while entry 0 is GRANTED (R105). -/
def frostHoldOutput (s : State) : Bool := s.powered && s.adm.isGranted holdEntry

/-- The glow output (R92). -/
def glowOutput (s : State) : Bool :=
  s.powered && s.heater.state == .glow && s.adm.isGranted glowEntry && s.drive.state != .cranking

/-- The fan's speed for a demand (R94). -/
def Demand.speed : Demand → FanSpeed
  | .low => .low
  | .medium => .medium
  | .high => .high

/-- The fan output: the state's speed while entry 2 is GRANTED (R90). -/
def fanOutput (s : State) : FanSpeed :=
  if !(s.powered && s.adm.isGranted fanEntry) then .off
  else match s.heater.state, s.heater.demand with
    | .ignite, _ => .low
    | .run, some d => d.speed
    | .purge, _ => .high
    | _, _ => .off

/-- The fuel pump's rate in tenths of a hertz, 0 when it does not pulse (R90, R93, R94). -/
def fuelRate (s : State) : Nat :=
  if !s.powered then 0
  else match s.heater.state, s.heater.demand with
    | .ignite, _ => 10
    | .run, some .low => 10
    | .run, some .medium => 20
    | .run, some .high => 35
    | _, _ => 0

/-- The pump output (section 4.5). -/
def pumpOutput (s : State) : Bool := s.powered && s.water.pump == .running

/-- The tank heat pads' output (R84). -/
def padOutput (s : State) : Bool := s.powered && s.water.asking && s.adm.isGranted padEntry

/-- A tank's electrode pull-ups: on during the settle of a scan (R69). -/
def pullUps (t : TankId) (s : State) : Bool := s.powered && (s.tanks.get t).settle != .idle

/-- An actuator's motor output and its direction: the motor runs only while its record is MOVING (section 6.1). -/
def motorOutput (a : Actuator) (s : State) : Option Direction :=
  if s.powered && (s.motionRec a).activity == .moving then (s.motionRec a).direction else none

/-- A general entry's output: on while the entry is GRANTED (R49). -/
def generalOutput (e : Fin 20) (s : State) : Bool := s.powered && s.adm.isGranted e

/-- A charge path's enable line (R33). -/
def enableLine (x : Source) (s : State) : Bool := s.powered && x.enabled

/-- A light channel's duty (R145, R146). -/
def lightOutput (i : Fin 12) (s : State) : Nat := if s.powered then s.light.channels[i].duty else 0

end Sys2Proof.Machine
end

