-- ==== Sys2Proof/Tests/Slice0.lean ====
section
/-! SUPPORT. Tests of the model: the figures and sequences that the spec works, one step each, ill-formed commands, and for
each statement with hypotheses a state and operands that meet them, every clause at a value of its own. -/

namespace Sys2Proof.Tests

open Machine

set_option maxRecDepth 40000

/-! ### Helpers -/

/-- An attached port that looks for a start bit and has every notice kind subscribed. -/
def linked : Port := { Port.reset with attached := true, level := some 1, subscription := 0x3FFF, line := .looking }

/-- The reset state with the three masters attached. -/
def base : State := { State.reset with ports := { panel := linked, remote := linked, vehicle := linked } }

/-- `base` in a drive state. -/
def driven (d : DriveState) : State := { base with drive := { base.drive with state := d } }

/-- The command answers a next state of which `f` holds. -/
def after (c : Instr) (s : State) (f : State → Bool) : Bool :=
  match exec c s with
  | .next t => f t
  | .fault _ => false
  | .refused _ => false

/-- The state a command answers, or the state itself. -/
def ran (c : Instr) (s : State) : State :=
  match exec c s with
  | .next t => t
  | .fault _ => s
  | .refused _ => s

/-- The answer that a port's transmitter is sending or its answer place holds: kind and body. -/
def answered (x : Port) : Option (Byte × List Byte) :=
  match x.answer with
  | some a => some (a.kind, a.body)
  | none => x.sending.map fun a => (a.kind, a.body)

/-- A sample with every channel ABSENT. -/
def nothing : Sample :=
  { battI := none, battV := none, srcShore := none, srcAlt := none, srcSolar := none, tBattery := none, tCabin := none
    tWaterBay := none, tOutside := none, tExhaust := none, motorI := none }

/-- A sample of the bay, the cabin, the exhaust and the motor. -/
def sampled (bay cabin exhaust motor : Option Int) : Sample :=
  { nothing with tWaterBay := bay, tCabin := cabin, tExhaust := exhaust, motorI := motor }

/-- A state whose battery is a LEAD one of 200 Ah, its account CALIBRATED and estimated, with charge and SoC given. -/
def lead200 (band k q soc : Nat) : State :=
  { base with
    settings := { base.settings with battery := .defaults .lead 200 }
    account := { base.account with
      cnom := 200, band := band, k := k, ct := capacity 200 k, q := q, soc := soc, socEff := soc, calibrated := true
      estimated := true, tempSeen := true } }

/-- The load table with an entry standing in a class and a state, its grant the rating where it is GRANTED. -/
def entryAt (e : Fin 20) (c : LoadClass) (rating : Nat) (st : EntryState) (a : Adm) : Adm :=
  a.setEntry e { cls := c, rating := rating, state := st, grant := if st = .granted then rating else 0, pass := 0 }

/-- The state with entry 1 PROTECTED and granted. -/
def motorHeld (s : State) : State := s.withAdm (entryAt 1 .prot 600 .granted s.adm)

/-- A record in flight. -/
def flying (act : Activity) (d : Direction) : MotionRec :=
  { MotionRec.reset with activity := act, direction := some d, requester := some .panel, limit := 60 }

/-- `base` in PARKED with the step in flight, holding the driver and entry 1. -/
def stepIn (act : Activity) (d : Direction) : State :=
  motorHeld { driven .parked with
    motion := { base.motion with recs := { base.motion.recs with step := flying act d }, holder := some .step } }

/-- `base` with the heater in a state and a mode. -/
def heating (st : HeaterState) (m : HeatMode) : State :=
  { base with heater := { base.heater with state := st, mode := m } }

/-- `base` with the drain CLOSED, the hold granted, and the pump in a state. -/
def dry (p : PumpState) (requested : Bool) : State :=
  let a := entryAt 0 .prot 30 .granted base.adm
  { base with
    frost := { base.frost with drainOpen := false, reason := .none }
    water := { base.water with pump := p, lock := .none, requested := requested }
    adm := if requested then entryAt 4 .essential 500 .granted a else a }

/-- `base` in PARKED with a record for the awning and one for the step, a holder and a waiter. -/
def moving (a b : MotionRec) (holder waiter : Option Actuator) : State :=
  { driven .parked with motion := { base.motion with recs := { awning := a, step := b }, holder := holder, waiter := waiter } }

/-- A record in FAULT, with its switches. -/
def faulted (st dep : Bool) : MotionRec :=
  { MotionRec.reset with activity := .fault, fault := .stall, result := .stall, stowedSw := st, deployedSw := dep }

/-- A motion record whose timers stand at their limits. -/
def worn (r : MotionRec) : MotionRec := { r with travel := r.limit * 100, grantWait := 30000, reversal := 500 }

/-- The state with every timer that counts time and runs standing at its limit, the step timer at a given one. -/
def expired (s : State) (wait : Nat := 0) : State :=
  { s with
    drive := { s.drive with age := 5000, crankTimer := 15000 }
    heater := { s.heater with
      phase := match s.heater.state with
        | .glow => 45000
        | .ignite => 90000
        | _ => 120000
      flameTimer := 20000 }
    water := { s.water with dryTimer := 120000 }
    motion := { s.motion with recs := { awning := worn s.motion.recs.awning, step := worn s.motion.recs.step } }
    runner := { s.runner with run := s.runner.run.map fun r => { r with timer := wait } }
    sleep := if s.sleep.state = .sleepPending then { s.sleep with idle := 60000 } else s.sleep }

/-- Section 11.4: a part whose entry conditions all hold, in a sleep state. -/
def quiet (st : SleepState) : State :=
  { driven .parked with
    account := { base.account with validI := .valid, lastI := -60 }
    sleep := { state := st, idle := 0, quietMark := false } }

/-- `quiet` with the quiet-wake mark set, the heater in STANDBY under FROST_KEEP. -/
def keeping (st : SleepState) : State :=
  { quiet st with
    heater := { base.heater with state := .standby, mode := .frostKeep }
    frost := { base.frost with keep := true }
    sleep := { state := st, idle := 0, quietMark := true } }

/-- A sample at which the cabin calls for heat and the water gives up frost-keep. -/
def thawing : Sample := { sampled (some 80) (some 40) none none with battI := some (-60) }

/-- `quiet`, the idle timer running, with a CALL behind a request whose answer waits for the transmitter, of a routine of one
scene. -/
def calling : State :=
  { quiet .sleepPending with
    settings := { base.settings with routines := base.settings.routines.set 4 [.scene 0 .all] }
    sleep := { state := .sleepPending, idle := 30000, quietMark := false }
    ports := { base.ports with panel := { linked with
      slotA := some { frame := reqFrame .call 9 [7], delivered := false }
      answer := some { kind := 0x83, tag := 8, body := [0, 0], restart := false }
      sending := some { kind := 0x83, tag := 7, body := [0, 0], restart := false } } } }

/-- `quiet` at a frame boundary with two commits, of which the later puts out what the earlier lights. -/
def overlaid : State :=
  { quiet .sleepPending with
    light := { base.light with
      frameTimer := 10
      commits := [{ port := .panel, first := 11, levels := [100] }, { port := .remote, first := 10, levels := [0, 0] }] } }

/-! ### Ill-formed commands -/

theorem test_wellFormed_longest : (Instr.frameArrival .panel 0x02 0 (List.replicate 48 1)).wellFormed = true := by decide
theorem test_wellFormed_body_too_long :
    (Instr.frameArrival .panel 0x02 0 (List.replicate 49 1)).wellFormed = false := by decide
theorem test_wellFormed_zero_run : (Instr.writeBudget .panel 1 0 0x6000 [0, 0, 0, 0]).wellFormed = false := by decide
theorem test_wellFormed_zero_run_before_check : (Instr.levels .panel 1 0 0 0 [0]).wellFormed = false := by decide
theorem test_wellFormed_broken_run : (Instr.scene .panel 1 0 0).wellFormed = true := by decide
theorem test_wellFormed_input : (Instr.scanCompletion .black 0xFF).wellFormed = true := by decide

/-! ### Reset and supply -/

/-- Log entries 3 and 4: State.reset is what power-on makes of a blank store with every line inactive. -/
theorem test_powerOn_makes_reset :
    ran (.powerOn ⟨false, false, false, false, false, false⟩) { State.reset with powered := false } = State.reset := by
  decide
/-- R181: a store that was never written fails its check. -/
theorem test_blank_store_fails : Store.blank.good = false := by decide
/-- R181: the check of the image makes a store good. -/
theorem test_saved_store_good : (Store.ofSettings .defaults).good = true := by decide
theorem test_supplyLoss : after .supplyLoss base (fun t => !t.powered) = true := by decide
/-- R174, R183: the restart effect detaches every port. -/
theorem test_restartEffect :
    after .restartEffect { base with restarting := true } (fun t => !t.restarting && !t.ports.panel.attached) = true := by
  decide

/-! ### The battery account (section 1.12) -/

/-- Section 1.12, samples 1 and 2: 2500 mA·s are drawn and SoC falls from 600 to 599; at 4.0 degrees the band moves to 3 and the
charge is rescaled before it is counted. -/
theorem test_sample_account :
    (after (.sampleEvent { nothing with battI := some (-1250), tBattery := some 100 }) (lead200 2 900 388800000 600)
      (fun t => t.account.q == 388797500 && t.account.soc == 599 && t.account.socEff == 599) = true)
      ∧ (after (.sampleEvent { nothing with battI := some (-1250), tBattery := some 40 }) (lead200 2 900 388797500 599)
      (fun t => t.account.band == 3 && t.account.ct == 590400000 && t.account.q == 354235222 && t.account.soc == 599)
      = true) := by decide
/-- Section 1.12, later at rest: 420 blended with the open-circuit 437 gives 432. -/
theorem test_restCorrection :
    after .restCorrection
      { lead200 3 820 (420 * 590400) 420 with
        account := { (lead200 3 820 (420 * 590400) 420).account with
          lastI := 8, validI := .valid, lastV := 12270, validV := .valid, restTimer := 7200000 } }
      (fun t => t.account.soc == 432 && t.account.q == 255052800 && t.account.restTimer == 0) = true := by decide
/-- Section 1.12, charging through to a sync: the 300th sample fills the account. -/
theorem test_fullChargeSync :
    after .fullChargeSync
      { lead200 1 950 670193800 979 with
        account := { (lead200 1 950 670193800 979).account with
          lastI := 380, validI := .valid, lastV := 14250, validV := .valid } }
      (fun t => t.account.q == 684000000 && t.account.soc == 1000 && t.account.syncLatched) = true := by decide
/-- Section 1.12, sensor loss: at 60 s of absence band 2 becomes band 3 and the charge is rescaled by 41/45. -/
theorem test_temperatureAbsenceLimit :
    after .temperatureAbsenceLimit (lead200 2 900 388800000 600)
      (fun t => t.account.band == 3 && t.account.q == 388800000 * 41 / 45 && t.account.calibrated) = true := by decide
/-- Section 1.12: the LFP lookups at mid and at low charge. -/
theorem test_ocv_lfp :
    socOcv (BatterySettings.defaults .lfp 100).ocv 13180 = 560 ∧ socOcv (BatterySettings.defaults .lfp 100).ocv 12850 = 133
      ∧ blend 210 133 500 = 172 := by decide

/-! ### Drive state and charge paths (section 2.11) -/

/-- Section 2.11, a morning departure: ignition ON, engine NO, handbrake YES is READY. -/
theorem test_drive_ready :
    after (.drive .vehicle 1 1 0 0 1 0) (driven .parked) (fun t => t.drive.state == .ready) = true := by decide
/-- Section 2.11, the master falls silent: READY becomes UNKNOWN and ALTERNATOR is disabled with DRIVE_STATE. -/
theorem test_reportStaleness :
    after .reportStaleness (expired { driven .ready with drive := { (driven .ready).drive with engine := true, reported := true } })
      (fun t => t.drive.state == .unknown && t.drive.altSource.cause == .driveState) = true := by decide
/-- Section 2.11, a stuck crank: CRANKING becomes READY with CRANK_LONG and the latch set. -/
theorem test_crankLong :
    after .crankLong (expired (driven .cranking)) (fun t => t.drive.state == .ready && t.drive.crankLong && t.drive.crankLatch)
      = true := by decide
theorem test_shorePresentChange :
    after (.shorePresentChange true) base (fun t => t.drive.shore && t.drive.shoreSource.enabled) = true := by decide
theorem test_inhibitNoSensor :
    after .inhibitNoSensor { base with drive := { base.drive with chem := .lfp } }
      (fun t => t.drive.inhibit && t.drive.solarSource.cause == .inhibit) = true := by decide

/-! ### Admission (section 3.11) -/

/-- Section 3.11, the state before "collapse": a queue and four grants, at SoC_eff 400 with F 700. -/
def collapse : State :=
  let a := entryAt 1 .comfort 1200 .waiting (entryAt 3 .comfort 800 .granted (entryAt 6 .deferrable 600 .granted
    (entryAt 9 .comfort 400 .granted (entryAt 5 .comfort 393 .granted base.adm))))
  let g := base.settings.loads.general
  { base with
    settings := { base.settings with
      loads := { base.settings.loads with
        general := g.set 2 { cls := .comfort, rating := 400, rank := 6 } } }
    account := { base.account with estimated := true, calibrated := true, q := 118080000, soc := 400, socEff := 400 }
    drive := { base.drive with f := 700, isrc := 700 }
    heater := { base.heater with state := .glow, mode := .comfort }
    light := { base.light with askedFloor := 3, askedElastic := 390, handedFloor := 3, handedElastic := 390 }
    adm := { a.setEntry 5 { a.entries[5] with grant := 390 } with
      queue := [1], granted := [5, 9, 6, 3], floorGrant := 3, floorWanted := 3, elasticWanted := 390, budget := 2700
      fUsed := 700, band := .taper, factor := 500, socUsed := 400 } }

/-- Section 3.11, sample 1: the shunt lead breaks, 6, 9 and 3 are shed to the head of the queue and S is 390. Section 2.11, the
cold night: -0.1 degrees sets the LFP inhibit COLD. Section 5.12: the bay at 3.0 degrees opens the drain with FROST. -/
theorem test_sample_blocks :
    (after (.sampleEvent { nothing with srcShore := some 700 }) collapse
      (fun t => t.adm.budget == 700 && t.adm.queue == [3, 9, 6, 1] && t.adm.granted == [5] && t.adm.sumS == 390)
      = true)
      ∧ (after (.sampleEvent { nothing with tBattery := some (-1) })
      { base with
        settings := { base.settings with battery := .defaults .lfp 100 }, drive := { base.drive with chem := .lfp } }
      (fun t => t.drive.inhibit && t.drive.inhibitCause == .cold && !t.drive.solarSource.enabled) = true)
      ∧ (after (.sampleEvent { nothing with tWaterBay := some 30 }) (dry .ready false)
      (fun t => t.frost.drainOpen && t.frost.reason == .frost && t.water.lock == .frost) = true) := by decide
/-- Section 3.4: SoC_eff 400 and F 340 give f 500 and B 2340. -/
theorem test_budget_at_one_sample :
    let a := (budgetEvent nothing { collapse with drive := { collapse.drive with f := 340 } }).adm
    a.factor = 500 ∧ a.budget = 2340 := by decide
/-- R48, R43: an ESSENTIAL general entry is granted at once in NORMAL. -/
theorem test_loadSet :
    after (.loadSet .panel 1 9 1)
      { base with settings := { base.settings with loads := { base.settings.loads with
          general := base.settings.loads.general.set 2 { cls := .essential, rating := 400, rank := 6 } } } }
      (fun t => t.adm.entries[9].state == .granted && t.adm.entries[9].grant == 400) = true := by decide
/-- R64: the disconnect empties the lists into the resume list, granted first. -/
theorem test_lvdEntry :
    after .lvdEntry collapse (fun t => t.adm.lvd && t.adm.queue == [] && t.adm.granted == []
      && t.adm.resume.take 3 == [5, 9, 6] && t.adm.budget == 0) = true := by decide
/-- R66: the exit makes the resume list the queue. -/
theorem test_lvdExit :
    after .lvdExit { base with adm := { entryAt 9 .comfort 400 .waiting base.adm with lvd := true, resume := [9] } }
      (fun t => !t.adm.lvd && t.adm.queue == [9] && t.adm.resume == []) = true := by decide

/-! ### Water (section 4.8) -/

/-- Section 4.8: the fresh tank at step 1 with an estimate of 6200 mL. -/
def filling (last step vEst : Nat) : State :=
  { base with
    tanks := { base.tanks with fresh := { base.tanks.fresh with step := some step, last := some last } }
    water := { base.water with vEst := some vEst, drawn := 41300 } }

/-- Section 4.8, the second scan: W W again is accepted as a rise to 2. -/
theorem test_scan_rise :
    after (.scanCompletion .fresh 0x03) (filling 2 1 6200)
      (fun t => t.tanks.fresh.step == some 2 && t.water.vEst == some 14000) = true := by decide
/-- Section 4.8, the third scan: a splash at electrode 5 is a gap; 3 stays to be confirmed. -/
theorem test_scan_gap :
    after (.scanCompletion .fresh 0x17) (filling 2 2 14000)
      (fun t => t.tanks.fresh.gap && t.tanks.fresh.last == some 3 && t.tanks.fresh.step == some 2) = true := by decide
/-- Section 4.8, drawing water: a pulse at step 7 takes 2 mL down to no less than 74000. -/
theorem test_flowPulse :
    after .flowPulse (filling 7 7 74001) (fun t => t.water.vEst == some 74000 && t.water.drawn == 41302) = true := by decide
theorem test_scanStart : after (.scanStart .grey) base (fun t => t.tanks.grey.settle == .settling) = true := by decide
/-- Section 4.8, running dry: demand ACTIVE grants entry 4 and runs the pump. -/
theorem test_pressureSwitchChange :
    after (.pressureSwitchChange true) (dry .ready false)
      (fun t => t.water.pump == .running && t.adm.entries[4].state == .granted) = true := by decide
theorem test_dryLock :
    after .dryLock (expired (dry .running true)) (fun t => t.water.pump == .dryLock && t.adm.entries[4].state == .off) = true := by
  decide
theorem test_pump : after (.pump .remote 1 1) (dry .disabled false) (fun t => t.water.pump == .ready) = true := by decide
/-- R78: ON is refused FROST (0x19) in FROST_LOCK. -/
theorem test_pump_frost : after (.pump .panel 1 1) base (fun t => answered t.ports.panel == some (0xA1, [0x19])) = true := by
  decide

/-! ### Heater and frost guard (section 5.12) -/

/-- Section 5.12, a comfort evening: HEAT COMFORT with room for the glow reaches GLOW in one event. -/
theorem test_heat_to_glow :
    after (.heat .panel 1 1 200) { base with adm := { base.adm with budget := 4000, fUsed := 0 } }
      (fun t => t.heater.state == .glow && t.heater.mode == .comfort && t.adm.granted == [3]) = true := by decide
/-- R89: the setpoint is clamped to 300. -/
theorem test_heat_clamps :
    after (.heat .panel 1 0 350) base (fun t => t.settings.setpoint == 300) = true := by decide
/-- Section 5.12: the glow timer's end leads to IGNITE with entry 2 ESSENTIAL at 80 and entry 3 released. -/
theorem test_glowEnd :
    after .glowEnd (expired { heating .glow .comfort with adm := { entryAt 3 .comfort 800 .granted base.adm with granted := [3] } })
      (fun t => t.heater.state == .ignite && t.adm.entries[2].rating == 80 && t.adm.entries[2].state == .granted
        && t.adm.entries[3].state == .off) = true := by decide
/-- Section 5.12, two failed starts: the first counts 1 and purges with FAILED_START. -/
theorem test_failedStart :
    after .failedStart (expired (heating .ignite .comfort))
      (fun t => t.heater.state == .purge && t.heater.attempts == 1 && t.heater.reason == .failedStart) = true := by decide
theorem test_flameOut :
    after .flameOut (expired { heating .run .comfort with heater := { (heating .run .comfort).heater with flameRunning := true } })
      (fun t => t.heater.state == .purge && t.heater.reason == .flameOut) = true := by decide
/-- Section 5.12: the second failed start's purge ends in LOCKOUT, START_FAIL, mode OFF. -/
theorem test_purgeEnd_lockout :
    after .purgeEnd
      (expired { heating .purge .comfort with
        heater := { (heating .purge .comfort).heater with reason := .failedStart, attempts := 2 } })
      (fun t => t.heater.state == .lockout && t.heater.lockout == .startFail && t.heater.mode == .off) = true := by decide
/-- Section 5.12: CLEAR_LOCKOUT with the frost-keep flag set passes OFF and FROST_KEEP to WAIT_GRANT in one event. -/
theorem test_clearLockout :
    after (.clearLockout .panel 1)
      { heating .lockout .off with frost := { base.frost with keep := true }, adm := { base.adm with budget := 0 } }
      (fun t => t.heater.state == .waitGrant && t.heater.mode == .frostKeep && t.heater.attempts == 0) = true := by decide
theorem test_cabinSensorLost :
    after .cabinSensorLost
      { base with heater := { base.heater with cabin := some 200, cabinAbsence := 59800 } }
      (fun t => t.heater.cabin == none) = true := by decide
/-- R105, R106: with the guard ON and the drain CLOSED the lost water temperature opens the drain with SENSOR. -/
theorem test_waterHoldExpiry :
    after .waterHoldExpiry
      { dry .ready false with frost := { (dry .ready false).frost with water := some 90, hold := 60000 } }
      (fun t => t.frost.drainOpen && t.frost.reason == .sensor && t.water.pump == .frostLock) = true := by decide
theorem test_openDrain :
    after (.openDrain .panel 1) (dry .running true)
      (fun t => t.frost.reason == .request && t.water.pump == .frostLock && t.adm.entries[4].state == .off) = true := by
  decide
/-- R108: at 7.0 degrees the drain closes and the hold is requested PROTECTED at 30. -/
theorem test_closeDrain :
    after (.closeDrain .panel 1) { base with frost := { base.frost with water := some 70 } }
      (fun t => !t.frost.drainOpen && t.adm.entries[0].grant == 30 && t.water.pump == .disabled) = true := by decide
/-- R108: below 7.0 degrees it is refused FROST. -/
theorem test_closeDrain_cold :
    after (.closeDrain .panel 1) { base with frost := { base.frost with water := some 69 } }
      (fun t => t.frost.drainOpen && answered t.ports.panel == some (0xA2, [0x19])) = true := by decide

/-! ### Awning and entry step (section 6.11) -/

/-- Section 6.11: the STOWED switch of the step ends its stow with DONE; entry 1 is OFF and the driver free. -/
theorem test_endSwitchChange :
    after (.endSwitchChange .step .stowed true) (stepIn .moving .stow)
      (fun t => t.motion.recs.step.result == .done && t.motion.holder == none && t.adm.entries[1].state == .off)
      = true := by decide
/-- Section 6.11: a MOVE STEP STOW takes the driver with entry 1 PROTECTED at 600. -/
theorem test_move_stow :
    after (.move .remote 1 1 1) (driven .parked)
      (fun t => t.motion.recs.step.activity == .moving && t.motion.holder == some .step && t.adm.entries[1].grant == 600)
      = true := by decide
/-- R114: a DEPLOY from REMOTE is refused ROLE (0x11). -/
theorem test_move_deploy_remote :
    after (.move .remote 1 0 0) (driven .parked) (fun t => answered t.ports.remote == some (0xC0, [0x11])) = true := by
  decide
theorem test_reversalEnd :
    after (.reversalEnd .step) (expired (stepIn .reversing .stow)) (fun t => t.motion.recs.step.activity == .moving) = true := by
  decide
/-- Section 6.11: the grant wait's end leaves NO_BUDGET. -/
theorem test_grantWaitExpiry :
    after (.grantWaitExpiry .step) (expired (stepIn .waitGrant .deploy))
      (fun t => t.motion.recs.step.activity == .idle && t.motion.recs.step.result == .noBudget) = true := by decide
/-- Section 6.11, a stall: FAULT, STALL, with entry 1 and the driver released. -/
theorem test_stall :
    after (.stall .step) (stepIn .moving .stow)
      (fun t => t.motion.recs.step.activity == .fault && t.motion.recs.step.fault == .stall && t.motion.holder == none
        && t.adm.entries[1].state == .off) = true := by decide
theorem test_travelTime :
    after (.travelTime .step) (expired (stepIn .moving .stow))
      (fun t => t.motion.recs.step.activity == .fault && t.motion.recs.step.fault == .travelTime) = true := by decide
theorem test_stopMotion :
    after (.stopMotion .vehicle 1 2) (stepIn .moving .stow)
      (fun t => t.motion.recs.step.result == .stopped && t.motion.recs.step.activity == .idle) = true := by decide
theorem test_clearFault :
    after (.clearFault .panel 1 1)
      { base with motion := { base.motion with recs := { base.motion.recs with
          step := { MotionRec.reset with activity := .fault, fault := .stall, result := .stall } } } }
      (fun t => t.motion.recs.step.activity == .idle && t.motion.recs.step.result == .stall) = true := by decide

/-! ### Cabin lighting (section 7.10) -/

/-- Section 7.10: scene 1 with 200, 120, 255 and 30 and a fade time of 10. -/
def scene1 : Settings :=
  { base.settings with
    scenes := base.settings.scenes.set 1
      { levels := (((base.settings.scenes[1].levels.set 0 200).set 1 120).set 2 255).set 3 30, fade := 10 } }

/-- Section 7.10, a scene recall: the steps are 2, 2, 3 and 1. -/
theorem test_scene_steps :
    after (.scene .panel 1 1 0) { base with settings := scene1 }
      (fun t => (t.light.channels.toList.map (·.step)).take 4 == [2, 2, 3, 1]) = true := by decide
/-- Section 7.10, demand: channels 3 and 7 ask for a floor of 3 and an elastic part of 390. -/
def lamps : Light :=
  { base.light with
    rated := (base.light.rated.set 3 150).set 7 300
    channels := (base.light.channels.set 3 { base.light.channels[3] with target := 200, present := 200 }).set 7
      { base.light.channels[7] with target := 255, present := 255 } }
theorem test_lighting_demand : lamps.floor = 3 ∧ lamps.demand = 393 := by decide
/-- Section 7.10, a partial grant of 195 of 390: the duties are 20200 and 32712. -/
theorem test_frameBoundary_partial :
    after .frameBoundary
      { base with
        settings := { base.settings with light := { base.settings.light with rated := lamps.rated } }
        light := { lamps with askedFloor := 3, askedElastic := 390, handedFloor := 3, handedElastic := 195 } }
      (fun t => t.light.channels[3].duty == 20200 && t.light.channels[7].duty == 32712) = true := by decide
/-- R138, R139: DIRECT levels become targets at step 255 and the pointer moves on round the window. -/
theorem test_levels :
    after (.levels .remote 1 2 3 0 [7, 8, 9]) base
      (fun t => t.light.channels[2].target == 9 && t.light.channels[3].target == 8 && t.light.channels[3].step == 255)
      = true := by decide

/-! ### Routines (section 8.9) -/

/-- `base` with routine 3 given. -/
def routine3 (steps : List RStep) : State :=
  { base with settings := { base.settings with routines := base.settings.routines.set 0 steps } }
/-- `routine3` with its step in flight on the timer. -/
def waiting3 (step : Nat) : State :=
  { routine3 [.wait 600, .wait 5] with
    runner := { base.runner with
      run := some { call := { routine := 3, caller := .panel }, step := step, phase := .onTimer, timer := 100 } } }

/-- Section 8.9, ARRIVE called from the gateway: it ends ABORTED at step 2 with reason ROLE. -/
theorem test_call_arrive_remote :
    after (.call .remote 1 1) (driven .parked)
      (fun t => t.runner.run == none && t.runner.lastEnds[1].kind == .aborted && t.runner.lastEnds[1].step == 2
        && t.runner.lastEnds[1].reason == .refusal .role) = true := by decide
/-- Section 8.9, winterizing: the calls that wait and that are refused BUSY. -/
theorem test_call_winterize :
    after (.call .panel 1 2) (driven .parked)
      (fun t => (t.runner.run.map (·.step)) == some 3 && t.frost.drainOpen) = true := by decide
theorem test_waitStepExpiry :
    after .waitStepExpiry (expired (waiting3 2) 5000) (fun t => t.runner.run == none && t.runner.lastEnds[3].kind == .done) = true := by
  decide
theorem test_withdraw :
    after (.withdraw .remote 1)
      { waiting3 1 with runner := { (waiting3 1).runner with pendingCall := some { routine := 0, caller := .remote } } }
      (fun t => t.runner.pendingCall == none) = true := by decide
theorem test_cancel :
    after (.cancel .panel 1) (waiting3 1) (fun t => t.runner.lastEnds[3].kind == .cancelled) = true := by decide

/-! ### Master links (section 9.12) and records -/

/-- Section 9.12: a character with a low stop bit inside a frame discards it and counts it bad. -/
theorem test_character_low_stop :
    after (.characterReceived .vehicle 0x00 false false)
      { base with ports := { base.ports with vehicle := { linked with asm := .inFrame [0x10, 1, 6] 0 } } }
      (fun t => t.ports.vehicle.asm == .hunting && t.ports.vehicle.badFrames == 1) = true := by decide
/-- Section 9.12: the break detaches VEHICLE and makes the drive state UNKNOWN. -/
theorem test_break :
    after (.lineBreak .vehicle) (driven .parked)
      (fun t => !t.ports.vehicle.attached && t.ports.vehicle.breaks == 1 && t.drive.state == .unknown) = true := by decide
/-- R189: the start bit wakes the part with the mark set; with every condition holding it is SLEEP_PENDING at once. -/
theorem test_startBitWake :
    after (.startBitWake .vehicle) (quiet .parkedSleep) (fun t => t.sleep.state == .sleepPending && t.sleep.quietMark)
      = true := by decide
/-- Section 11.4: the quiet report taken with the mark set returns the part to sleep. -/
theorem test_drive_quiet :
    after (.drive .vehicle 1 0 0 0 1 0) (ran (.startBitWake .vehicle) (quiet .parkedSleep))
      (fun t => t.sleep.state == .parkedSleep && !t.sleep.quietMark) = true := by decide
/-- R187, R189, R190: a condition that fails and holds again within one event does so at once. The heater leaves STANDBY and
rests again at one sample, which wakes the part and clears the mark; a DIRECT level of 100 then 0 on one channel wakes it;
a commit that a later one undoes restarts the idle timer. -/
theorem test_condition_fails_within_sample :
    (ran (.sampleEvent thawing) (keeping .parkedSleep)).sleep = { state := .sleepPending, idle := 0, quietMark := false }
      ∧ (ran (.sampleEvent thawing) (keeping .parkedSleep)).heater.state = .off := by decide
theorem test_condition_fails_within_levels :
    after (.levels .panel 1 0 0 0 [100, 0]) (quiet .parkedSleep)
      (fun t => t.sleep.state == .sleepPending && t.light.channels[0].target == 0) = true := by decide
theorem test_condition_fails_within_boundary :
    after .frameBoundary { overlaid with sleep := { overlaid.sleep with idle := 30000 } }
      (fun t => t.sleep.state == .sleepPending && t.sleep.idle == 0 && t.light.channels[11].target == 0) = true := by decide
/-- R187: a CALL served as its port's answer place becomes empty restarts the idle timer, though its routine ends at once. -/
theorem test_condition_fails_within_call :
    after (.frameSent .panel) calling
      (fun t => t.sleep.state == .sleepPending && t.sleep.idle == 0 && t.runner.run == none
        && t.runner.lastEnds[7].kind == .done) = true := by decide
/-- Section 9.12, an overrun behind a save: the WRITE that finds both slots full is counted and marks the port. -/
theorem test_frameArrival_overrun :
    after (.frameArrival .panel 0x04 0x33 [0x09, 0, 0, 2, 0, 200])
      { base with ports := { base.ports with panel := { linked with
          slotA := some { frame := { kind := 0x05, tag := 0x31, body := [] }, delivered := true }
          slotB := some { kind := 0x03, tag := 0x32, body := [2, 0, 1] } } } }
      (fun t => t.ports.panel.overruns == 1 && t.ports.panel.mark && t.settings.setpoint == 200) = true := by decide
/-- Section 9.12, answers ahead of notices: the answer goes before the notices. -/
theorem test_frameSent :
    after (.frameSent .remote)
      { base with ports := { base.ports with remote := { linked with
          sending := some { kind := 0x83, tag := 1, body := [0, 0], restart := false }
          answer := some { kind := 0xC0, tag := 2, body := [1], restart := false }
          queue := [{ kind := .shed, cls := .load, index := 3 }] } } }
      (fun t => (t.ports.remote.sending.map (·.kind)) == some 0xC0 && t.ports.remote.queue.length == 1) = true := by
  decide
theorem test_receiveLineHigh :
    after (.receiveLineHigh .panel) State.reset (fun t => t.ports.panel.line == .looking) = true := by decide
/-- R170, R185: the DONE of an ATTACH carries 0x57, 0x06, 1, the role and the settings-defaulted flag. -/
theorem test_attach :
    after (.attach .remote 9 1 0x3FFF) State.reset
      (fun t => t.ports.remote.attached && answered t.ports.remote == some (0x81, [0, 0x57, 6, 1, 1, 1])) = true := by
  decide
theorem test_detach : after (.detach .remote 9) base (fun t => !t.ports.remote.attached) = true := by decide
theorem test_restart : after (.restart .panel 9) base (fun t => t.restarting) = true := by decide
/-- R178: TANK 1's image names its count, its marks and UNKNOWN. -/
theorem test_read :
    after (.read .panel 1 7 1 1) base
      (fun t => ((answered t.ports.panel).map fun a => (a.2.take 4)) == some [0, 1, 4, 5]) = true := by decide
/-- R179: a class that is none is refused RANGE. -/
theorem test_write : after (.write .panel 1 15 0 1 [0]) base (fun t => answered t.ports.panel == some (0x84, [0x14])) = true := by
  decide
theorem test_writeBattery :
    after (.writeBattery .panel 1 0 0x0001 [1]) base (fun t => t.settings.battery.eta == 990) = true := by decide
theorem test_writeBudget :
    after (.writeBudget .panel 1 0 0x2000 [0x1B, 0x59]) base (fun t => answered t.ports.panel == some (0x84, [0x14]))
      = true := by decide
theorem test_writeLoad :
    after (.writeLoad .panel 1 9 0x0008 [0x01, 0xC2]) base (fun t => t.settings.loads.general[2].rating == 450) = true := by
  decide
theorem test_writeTank :
    after (.writeTank .panel 1 1 0x0001 [5]) base (fun t => answered t.ports.panel == some (0x84, [0x14])) = true := by
  decide
theorem test_writeWater :
    after (.writeWater .panel 1 0 0x0040 [50]) base (fun t => t.settings.pulseVolume == 50) = true := by decide
theorem test_writeHeater :
    after (.writeHeater .panel 1 0 0x0002 [0x01, 0x5E]) base (fun t => t.settings.setpoint == 300) = true := by decide
theorem test_writeMotion :
    after (.writeMotion .panel 1 1 0x0300 [0, 4, 3, 0x84]) base
      (fun t => t.settings.step.travelLimit == 10 && t.settings.step.stallThreshold == 900) = true := by decide
theorem test_writeChannel :
    after (.writeChannel .panel 1 0 0x03C0 [0, 5, 5, 11]) base (fun t => answered t.ports.panel == some (0x84, [0x14]))
      = true := by decide
theorem test_writeScene :
    after (.writeScene .panel 1 2 0x0001 [9]) base (fun t => t.settings.scenes[2].levels[0] == 9) = true := by decide
/-- R150: one step, WAIT 600. -/
theorem test_writeRoutine :
    after (.writeRoutine .panel 1 3 0x0004 ([1] ++ be16 (stepCode (.wait 600)))) base
      (fun t => t.settings.routines[0] == [.wait 600]) = true := by decide
/-- Section 9.12: a SAVE stays in slot A, delivered and unanswered. -/
theorem test_save :
    after (.save .panel 0x31) base
      (fun t => t.saving.isSome && (t.ports.panel.slotA.map (·.delivered)) == some true
        && answered t.ports.panel == none) = true := by decide
theorem test_saveCompletion :
    after .saveCompletion (ran (.save .panel 0x31) base)
      (fun t => t.store.good && !t.defaulted && answered t.ports.panel == some (0x85, [0])) = true := by decide
theorem test_parkedSleepEntry :
    after .parkedSleepEntry (expired (quiet .sleepPending)) (fun t => t.sleep.state == .parkedSleep) = true := by decide

/-- R101, R94: RUN that loses its cabin temperature holds LOW, entry 2 at 80. -/
theorem test_cabinSensorLost_run :
    after .cabinSensorLost
      { heating .run .comfort with
        heater := { (heating .run .comfort).heater with demand := some .high, cabin := some 150, cabinAbsence := 59800 }
        adm := entryAt 2 .essential 180 .granted base.adm }
      (fun t => t.heater.cabin == none && t.heater.demand == some .low && t.adm.entries[2].grant == 80) = true := by decide

/-! ### Witnesses: states and operands that meet the hypotheses of the statements, clause by clause -/

theorem test_witness_IdleStepPassesTime :
    base.pending = [] ∧ base.powered = true ∧ (ran .supplyLoss base).pending = [] ∧ (ran .supplyLoss base).powered = false
      ∧ (waiting3 1).pending = [] ∧ (waiting3 1).powered = true
      ∧ ((waiting3 1).runner.run.bind fun r => waitLimit (waiting3 1).settings r) = some 600000
      ∧ base.runner.run = none ∧ (expired base).pending = [] := by decide
/-- Log entry 2: the crank limit falls due as its timer reaches 15 s, and no millisecond sooner. -/
theorem test_idleStep_crankLimit :
    let s (n : Nat) : State := { driven .cranking with drive := { (driven .cranking).drive with crankTimer := n } }
    (match step (s 14999), step (s 14998) with
      | .next t, .next u => t.pending.contains .crankLong && !u.pending.contains .crankLong
      | _, _ => false) = true := by decide

/-- A commanded part, for the invariants that every step keeps. -/
def commanded (c : Instr) (s : State) : State := s.withPending [c]

theorem test_witness_SettingsStayValid :
    (commanded (.heat .panel 1 0 350) base).settingsValid
      ∧ goesOn (step (commanded (.heat .panel 1 0 350) base)) = true := by
  refine ⟨⟨by decide, nofun⟩, by decide⟩
theorem test_witness_ChargeStaysInCapacity :
    (lead200 2 900 648000000 1000).settingsValid ∧ (lead200 2 900 648000000 1000).accountBounded
      ∧ goesOn (step (commanded (.sampleEvent { nothing with battI := some 2000 }) (lead200 2 900 648000000 1000))) = true := by
  refine ⟨⟨by decide, nofun⟩, ⟨by decide, by decide, by decide, by decide⟩, by decide⟩
/-- A load table agrees with its lists where the conditions of `Adm.sound` hold, each put so that it can be decided. -/
theorem sound_of {a : Adm}
    (fixed : a.entries[(0 : Fin 20)].cls = .prot
      ∧ (a.entries[(1 : Fin 20)].cls = .comfort ∨ a.entries[(1 : Fin 20)].cls = .prot)
      ∧ (a.entries[(2 : Fin 20)].cls = .essential ∨ a.entries[(2 : Fin 20)].cls = .prot)
      ∧ a.entries[(3 : Fin 20)].cls = .comfort ∧ a.entries[(4 : Fin 20)].cls = .essential
      ∧ a.entries[(5 : Fin 20)].cls = .comfort ∧ a.entries[(6 : Fin 20)].cls = .deferrable
      ∧ ∀ i : Fin 13, a.entries[(⟨i.val + 7, by omega⟩ : Fin 20)].cls ≠ .prot)
    (queueOnce : a.queue.Nodup) (grantedOnce : a.granted.Nodup) (resumeOnce : a.resume.Nodup)
    (queued : ∀ e, e ∈ a.queue → a.entries[e].counted = true ∧ (a.entries[e].state = .waiting ∨ a.entries[e].state = .shed))
    (resumed : ∀ e, e ∈ a.resume → a.entries[e].counted = true ∧ a.entries[e].state = .waiting)
    (listed : ∀ e, e ∈ a.granted ↔ (a.entries[e].counted = true ∧ a.entries[e].state = .granted))
    (held : ∀ e, a.entries[e].counted = true → 0 < a.entries[e].grant → e ∈ a.granted ∨ (e = lightEntry ∧ e ∈ a.queue))
    (released : a.lvd = false → a.resume = [])
    (ungranted : ∀ e, e ≠ lightEntry → a.entries[e].state ≠ .granted → a.entries[e].grant = 0)
    (disconnected : a.lvd = true → a.queue = [] ∧ a.granted = [] ∧ a.budget = 0)
    (within : a.sumS ≤ a.budget ∧ a.sumD ≤ a.fUsed) : a.sound where
  released := released
  ungranted := ungranted
  queueOnce := queueOnce
  grantedOnce := grantedOnce
  resumeOnce := resumeOnce
  classes := by
    obtain ⟨h0, h1, h2, h3, h4, h5, h6, general⟩ := fixed
    rintro ⟨n, h⟩
    match n, h with
    | 0, _ => exact h0
    | 1, _ => exact h1
    | 2, _ => exact h2
    | 3, _ => exact h3
    | 4, _ => exact h4
    | 5, _ => exact h5
    | 6, _ => exact h6
    | i + 7, h => exact general ⟨i, by omega⟩
  queued := queued
  resumed := resumed
  listed := listed
  held := held
  disconnected := disconnected
  withinB := within.1
  withinF := within.2
theorem base_sound : base.adm.sound := sound_of (by decide) (by decide) (by decide) (by decide) (by decide) (by decide)
    (by decide) (by decide) (by decide) (by decide) (by decide) (by decide)
theorem collapse_sound : collapse.adm.sound := sound_of (by decide) (by decide) (by decide) (by decide) (by decide) (by decide)
    (by decide) (by decide) (by decide) (by decide) (by decide) (by decide)
theorem test_witness_AdmissionKeepsItsLimits :
    collapse.settingsValid ∧ collapse.adm.sound
      ∧ goesOn (step (commanded (.sampleEvent { nothing with srcShore := some 700 }) collapse)) = true := by
  refine ⟨⟨by decide, nofun⟩, collapse_sound, by decide⟩
/-- `collapse` once disconnect is in force. -/
def dropped : State := ran .lvdEntry collapse
theorem test_witness_DisconnectKeepsQueueEmpty :
    dropped.adm.lvd = true ∧ dropped.lvdEmpties ∧ goesOn (step (commanded (.loadSet .panel 1 12 1) dropped)) = true := by
  refine ⟨by decide, fun _ => ⟨by decide, by decide⟩, by decide⟩
theorem test_witness_OpenDrainKeepsPumpLocked :
    base.drainLocksPump ∧ (dry .running true).drainLocksPump
      ∧ goesOn (step (commanded (.openDrain .panel 1) (dry .running true))) = true := by
  refine ⟨⟨by decide, by decide⟩, ⟨by decide, by decide⟩, by decide⟩
theorem test_witness_NoDeployOutsideParked :
    (stepIn .moving .deploy).deploysParked
      ∧ goesOn (step (commanded (.drive .vehicle 1 1 0 0 1 0) (stepIn .moving .deploy))) = true := by
  refine ⟨?_, by decide⟩
  intro a
  cases a <;> decide
theorem test_witness_OneHolderOfTheDriver :
    (stepIn .moving .stow).deploysParked ∧ (stepIn .moving .stow).driverHeld
      ∧ goesOn (step (commanded (.move .panel 1 0 1) (stepIn .moving .stow))) = true := by
  refine ⟨?_, ⟨?_, ?_, by decide⟩, by decide⟩ <;> intro a <;> cases a <;> decide
theorem test_witness_PortsStayProper :
    State.reset.portsProper ∧ goesOn (step (commanded (.attach .remote 9 1 0x3FFF) State.reset)) = true := by
  refine ⟨?_, by decide⟩
  intro p
  cases p <;> exact ⟨by decide, by decide, nofun⟩
theorem test_witness_SleepFollowsItsConditions :
    (quiet .parkedSleep).sleepFollows ∧ base.sleepFollows
      ∧ goesOn (step (commanded (.loadSet .panel 1 12 1) (quiet .parkedSleep))) = true
      ∧ (keeping .parkedSleep).calm = true
      ∧ sleepReady (heaterSample thawing (settle (sampleAdmitted thawing (keeping .parkedSleep)))) = false
      ∧ (quiet .parkedSleep).calm = true ∧ sleepReady (settle (sampleAdmitted nothing (quiet .parkedSleep))) = false
      ∧ (quiet .parkedSleep).open_ .remote = true ∧ (7 : Fin 8).val = (7 : Byte).toNat ∧ (0 : Fin 8).val = (0 : Byte).toNat
      ∧ routineSteps (quiet .parkedSleep).settings 0 ≠ [] ∧ (quiet .parkedSleep).runner.run = none
      ∧ calling.calm = true ∧ calling.ports.panel.slotA = some { frame := reqFrame .call 9 [7], delivered := false }
      ∧ routineSteps calling.settings 7 ≠ [] ∧ calling.runner.run = none ∧ calling.restarting = false
      ∧ calling.ports.panel.sending.map (·.restart) = some false := by
  refine ⟨?_, ?_, by decide⟩ <;> unfold State.sleepFollows <;> decide

theorem test_witness_PowerOnResetsAndCutSaveDefaults :
    (ran (.save .panel 1) base).powered = true
      ∧ (ran (.save .panel 1) base).saving = some { snapshot := .defaults, elapsed := 0 }
      ∧ (ran .supplyLoss base).powered = false := by decide
theorem test_witness_RestartKeepsAndResets :
    let full (s : State) : State := { s with restarting := true, saving := some { snapshot := .defaults, elapsed := 0 } }
    let ok (s : State) : Bool := s.powered && s.settled && s.restarting
    ok (ran (.restart .panel 1) base) = true ∧ ok (full (heating .run .comfort)) = true ∧ ok (full (heating .purge .off)) = true
      ∧ ok (full (heating .lockout .off)) = true ∧ ok (full (waiting3 1)) = true
      ∧ (waiting3 1).runner.run.map (·.call.routine) = some 3 ∧ ok (full { base with light := lamps }) = true
      ∧ ok (full (stepIn .moving .deploy)) = true ∧ ok (full (dry .running true)) = true := by decide

theorem test_witness_CapacityIsFormedFromTheBand :
    600 ∈ bandFactors .lead ∧ 800 ∈ bandFactors .lfp ∧ 3 ≠ (lead200 2 900 0 0).account.band
      ∧ ¬ (base.settings.battery.chem = (lead200 2 900 0 0).account.chem
        ∧ base.settings.battery.cnom = (lead200 2 900 0 0).account.cnom) := by decide
/-- Section 1.12, returning to the warmer band: 50 and 55 keep band 3, 60 leaves it for band 2; 40 leaves band 2. -/
theorem test_witness_BandMovesAndRescales :
    5 ≤ (bandLowers .lead).length ∧ 3 ≤ (bandLowers .lfp).length ∧ movedBand .lead 3 50 = 3 ∧ movedBand .lead 3 55 = 3
      ∧ movedBand .lead 3 60 = 2 ∧ movedBand .lead 2 40 = 3
      ∧ 3 ≠ (lead200 2 900 648000000 1000).account.band ∧ 0 < (lead200 2 900 648000000 1000).account.ct
      ∧ (lead200 2 900 648000000 1000).account.q = (lead200 2 900 648000000 1000).account.ct
      ∧ (lead200 2 900 0 0).account.q = 0 := by decide
theorem test_witness_SampleCountsCharge :
    let s := lead200 2 900 388800000 600
    let x : Sample := { nothing with battI := some (-30000) }
    s.powered = true ∧ s.account.estimated = true ∧ s.settings.battery.chem = s.account.chem
      ∧ s.settings.battery.cnom = s.account.cnom ∧ x.battI = some (-30000) ∧ x.battV = none ∧ x.tBattery = none
      ∧ s.account.tempAbsence + s.period < 60000
      ∧ (let y : Sample := { x with battI := some 30001, battV := some 17000, tBattery := some 850 }
        let z : Sample := { x with battI := some (-30001), battV := some 8000, tBattery := some (-400) }
        y.battI = some 30001 ∧ y.battV = some 17000 ∧ y.tBattery = some 850 ∧ z.battV = some 8000 ∧ z.tBattery = some (-400)
          ∧ s.account.restTimer + s.period < s.settings.battery.restTime * 1000 ∧ s.account.syncTimer + s.period < 60000) := by decide
theorem test_witness_AbsentCurrentAndFirstVoltage :
    let s := lead200 3 820 388800000 600
    let u := base
    s.powered = true ∧ s.settings.battery.chem = s.account.chem ∧ s.settings.battery.cnom = s.account.cnom
      ∧ s.account.tempAbsence + s.period < 60000 ∧ s.account.estimated = true ∧ nothing.battI = none
      ∧ u.powered = true ∧ u.settings.battery.chem = u.account.chem ∧ u.settings.battery.cnom = u.account.cnom
      ∧ u.account.tempAbsence + u.period < 60000 ∧ u.account.estimated = false ∧ nothing.battV = none
      ∧ ({ nothing with battV := some 17000 } : Sample).battV = some 17000 := by decide
/-- `lead200` at rest in band 3 with a voltage, and with a current. -/
def rested (chem : Chemistry) (v i : Int) : State :=
  { lead200 3 820 247968000 420 with
    settings := { base.settings with battery := .defaults chem 200 }
    account := { (lead200 3 820 247968000 420).account with
      chem := chem, lastI := i, validI := .valid, lastV := v, validV := .valid } }
/-- The conditions under which the rest correction follows (R17, R18). -/
def restHolds (s : State) : Bool := decide <|
  s.account.estimated = true ∧ s.account.validI ≠ .absent ∧ s.account.lastI.natAbs ≤ 20
    ∧ s.account.validV = .valid ∧ s.drive.state ≠ .cranking
/-- The conditions under which the full-charge sync follows (R20). -/
def syncHolds (s : State) : Bool := decide <|
  s.account.estimated = true ∧ s.account.syncLatched = false ∧ s.account.validV = .valid
    ∧ s.account.validI ≠ .absent ∧ (s.settings.battery.fullV : Int) ≤ s.account.lastV ∧ 0 < s.account.lastI
    ∧ s.account.lastI ≤ (s.account.cnom * 2 : Nat)
theorem test_witness_AccountTimersCorrectCharge :
    let at150 := rested .lfp 12875 (-20)
    (rested .lead 12270 20).calm = true ∧ restHolds (rested .lead 12270 20) = true ∧ (rested .lead 12270 20).account.chem = .lead
      ∧ restHolds at150 = true ∧ restHolds (rested .lfp 13475 0) = true
      ∧ socOcv (rested .lfp 13475 0).settings.battery.ocv 13475 = 950 ∧ socOcv at150.settings.battery.ocv at150.account.lastV = 150
      ∧ restHolds (rested .lfp 13180 20) = true ∧ (rested .lfp 13180 20).account.chem = .lfp
      ∧ socOcv (rested .lfp 13180 20).settings.battery.ocv 13180 = 560
      ∧ restHolds (rested .lead 12270 21) = false ∧ restHolds (rested .lead 12270 (-21)) = false
      ∧ syncHolds (rested .lead 14200 400) = true ∧ 0 < (rested .lead 14200 400).account.ct
      ∧ syncHolds (rested .lead 14200 401) = false ∧ syncHolds (rested .lead 14199 400) = false ∧ syncHolds (rested .lead 14200 0) = false
      ∧ (lead200 2 900 388800000 600).account.validT = .absent
      ∧ (lead200 2 900 388800000 600).account.band ≠ bandContaining .lead 0
      ∧ ({ (rested .lead 0 0).account with validT := .valid } : Account).validT ≠ .absent := by decide
theorem test_witness_SampleFiltersSources : base.calm = true ∧ (quiet .parkedSleep).calm = true := by decide
theorem test_witness_DriveReportTaken :
    base.open_ .vehicle = true ∧ 1 < (2 : Byte).toNat ∧ (1 : Byte).toNat ≤ 1 ∧ (driven .ready).sleep.quietMark = false
      ∧ (driven .ready).open_ .vehicle = true ∧ (driven .parked).open_ .vehicle = true
      ∧ (driven .cranking).open_ .vehicle = true ∧ (driven .moving).open_ .vehicle = true
      ∧ (let stowed := { MotionRec.reset with stowedSw := true }
        let parked (a : MotionRec) := moving a stowed none none
        let deploy := moving (flying .moving .deploy) stowed (some .awning) none
        let s := deploy.withAdm { entryAt 1 .comfort 600 .granted deploy.adm with granted := [1] }
        (parked stowed).open_ .vehicle = true ∧ (parked (faulted false false)).open_ .vehicle = true
          ∧ (parked .reset).open_ .vehicle = true ∧ (parked .reset).adm.entries[motorEntry].state = .off
          ∧ (parked .reset).adm.uncounted motorEntry = true ∧ (parked .reset).drive.state = .parked
          ∧ s.open_ .vehicle = true ∧ (s.motionRec .awning).activity = .moving
          ∧ (s.motionRec .awning).direction = some .deploy ∧ (s.motionRec .awning).atEnd .stow = false
          ∧ s.passiveBut motorEntry = true ∧ s.adm.entries[motorEntry].cls = .comfort
          ∧ base.drive.state = .unknown ∧ base.motion.awayRef = .parked)
      ∧ (let q : State := { quiet .sleepPending with sleep := { state := .sleepPending, idle := 0, quietMark := true } }
        q.open_ .vehicle = true ∧ q.drive.state = .parked ∧ sleepReady q = true ∧ q.sleep.quietMark = true) := by decide
theorem test_witness_DriveTimersChangeState :
    (driven .cranking).calm = true ∧ (driven .cranking).drive.state = .cranking ∧ base.calm = true
      ∧ base.drive.state = .unknown ∧ (driven .ready).calm = true ∧ (driven .moving).calm = true
      ∧ (expired (driven .cranking)).calm = true ∧ (expired (driven .cranking)).drive.crankTimer = 15000
      ∧ (expired (driven .ready)).calm = true ∧ (expired (driven .ready)).drive.age = 5000 ∧ (driven .ready).drive.age < 5000
      ∧ (expired (driven .parked)).calm = true ∧ ((driven .parked).motionRec .step).inFlight = false
      ∧ (expired (stepIn .moving .deploy)).calm = true ∧ (expired (stepIn .moving .deploy)).aloneAt .step = true
      ∧ ((stepIn .moving .deploy).motionRec .awning).inFlight = false := by decide
theorem test_witness_ShoreAndLostSensorJudgeEnables :
    let s : State := { base with drive := { base.drive with chem := .lfp } }
    let u : State := { s with account := { s.account with validT := .valid } }
    s.calm = true ∧ s.drive.chem = .lfp ∧ s.account.validT = .absent ∧ base.drive.chem = .lead
      ∧ u.calm = true ∧ u.account.validT ≠ .absent := by decide

theorem test_witness_BudgetEventFormsBudget :
    collapse.settingsValid ∧ collapse.adm.sound ∧ collapse.adm.lvd = false ∧ dropped.adm.lvd = true := by
  refine ⟨⟨by decide, nofun⟩, collapse_sound, by decide, by decide⟩
/-- A part whose budget at the next sample is its source current alone, with one entry that asks in a class. -/
def asking (e : Fin 20) (c : LoadClass) (st : EntryState) (f : Nat) (s : State) : State :=
  let one := if c = .essential then [] else [e]
  (s.withAdm { entryAt e c 300 st s.adm with
    granted := if st = .granted then one else [], queue := if st = .waiting then one else [], elasticWanted := 300 }).withDrive
      { s.drive with f := f }
/-- The part enters disconnect at the next sample. -/
def leaving (s : State) : State := s.withAdm { s.adm with entryTimer := 30000 }
/-- The part in disconnect leaves it at the next sample. -/
def returning (s : State) : State := s.withAdm { s.adm with lvd := true, exitTimer := 60000 }
/-- `base` in PARKED with a deploy of the awning and its driver, and a waiting stow of the step. -/
def deploying (act : Activity) (waits : Bool) : State :=
  if waits then moving (flying act .deploy) (flying .waitDriver .stow) (some .awning) (some .step)
  else moving (flying act .deploy) .reset (some .awning) none
/-- Every change of grant that a sample hands to an owner, in the states of the owner that take it. -/
theorem test_witness_BudgetEventFormsBudget_owners :
    let x := sampled (some 60) none none none
    let u (s : State) : State := sampleAdmitted x s
    let one (e : Fin 20) (c : Cause) (s : State) : Bool :=
      s.calm && s.frostPassive x && (u s).adm.changes.map (fun g => (g.entry, g.cause)) == [(e, c)]
        && s.motion.holder.all (fun a => !(s.motionRec a).watched)
    let moves (e : Fin 20) (c : Cause) (s : State) : Bool :=
      s.calm && s.frostPassive x && (u s).adm.changes.map (fun g => (g.entry, g.cause)) == [(e, c)]
    let glow (h : HeaterState) (st : EntryState) (f : Nat) : State := asking 3 .comfort st f (heating h .comfort)
    let fan : State := leaving (asking 2 .essential .granted 0 (heating .run .comfort))
    let pump (st : EntryState) (p : PumpState) : State :=
      let s := asking 4 .essential st 0 base
      s.withWater { s.water with pump := p, requested := true, demand := true }
    one 3 .granted (glow .waitGrant .waiting 4000) = true ∧ base.frostQuiet = true
      ∧ (u (glow .waitGrant .waiting 4000)).adm.entries[glowEntry].state = .granted
      ∧ one 3 .shed (glow .glow .granted 0) = true ∧ one 3 .lvd (leaving (glow .glow .granted 0)) = true
      ∧ (u (leaving (glow .glow .granted 0))).purgeReady = true
      ∧ one 2 .lvd fan = true ∧ (u fan).purgeReady = true
      ∧ one 4 .granted (returning (pump .waiting .ready)) = true
      ∧ (u (returning (pump .waiting .ready))).adm.entries[pumpEntry].state = .granted
      ∧ one 4 .lvd (leaving (pump .granted .running)) = true ∧ base.heaterPassive = true
      ∧ one 5 .cut (asking 5 .comfort .granted 0 base) = true
      ∧ one 5 .lvd (leaving (asking 5 .comfort .granted 0 base)) = true
      ∧ one 9 .shed (asking 9 .comfort .granted 0 base) = true
      ∧ moves 1 .granted (asking 1 .comfort .waiting 4000 (deploying .waitGrant false)) = true
      ∧ moves 1 .granted (asking 1 .comfort .waiting 4000 (deploying .reversing false)) = true
      ∧ (u (asking 1 .comfort .waiting 4000 (deploying .waitGrant false))).adm.entries[motorEntry].state = .granted
      ∧ moves 1 .shed (asking 1 .comfort .granted 0 (deploying .moving false)) = true
      ∧ (u (asking 1 .comfort .granted 0 (deploying .moving false))).aloneAt .awning = true
      ∧ moves 1 .lvd (leaving (asking 1 .comfort .granted 0 (deploying .reversing true))) = true
      ∧ (u (leaving (asking 1 .comfort .granted 0 (deploying .reversing true)))).handsOver .awning .step = true := by
  decide
theorem test_witness_FittingEntryIsGranted :
    let a := entryAt 1 .comfort 300 .waiting { collapse.adm with budget := 2690 }
    let d := entryAt 6 .deferrable 310 .waiting { a with queue := [6, 1], granted := [5, 9, 3] }
    (1 : Fin 20) ≠ lightEntry ∧ a.entries[(1 : Fin 20)].cls = .comfort ∧ a.entries[(1 : Fin 20)].grant = 0
      ∧ a.fits 1 = true ∧ Adm.fits { a with budget := 2689 } 1 = false
      ∧ d.entries[(6 : Fin 20)].cls = .deferrable ∧ d.entries[(6 : Fin 20)].grant = 0 ∧ d.fits 6 = true
      ∧ Adm.fits { d with fUsed := 309 } 6 = false := by decide
theorem test_witness_PassCountsAndLightsInParts :
    let a := entryAt 1 .comfort 1200 .waiting (entryAt 9 .comfort 400 .waiting (entryAt 3 .comfort 800 .waiting collapse.adm))
    let q : Adm := { a with queue := [9, 3, 1], granted := [5, 6] }
    let b : Adm := { q.setEntry 3 { q.entries[(3 : Fin 20)] with pass := 3 } with budget := 1100 }
    let wants (e : Nat) : Adm := { collapse.adm with elasticWanted := e }
    b.lvd = false ∧ b.queue = [9, 3] ++ [1] ∧ b.queue.Nodup ∧ lightEntry ∉ b.queue ∧ (∀ e ∈ b.queue, b.fits e = false)
      ∧ b.entries[(9 : Fin 20)].pass < 3 ∧ 3 ≤ b.entries[(3 : Fin 20)].pass
      ∧ b.entries[lightEntry].counted = true ∧ b.entries[lightEntry].grant = 390
      ∧ (wants 390).elasticWanted - 390 = 0 ∧ (wants 700).elasticWanted - 390 = 310
      ∧ (wants 700).budget - (wants 700).sumS - 200 = 310 ∧ (wants 701).elasticWanted - 390 = 311
      ∧ ({ wants 700 with budget := 2390 } : Adm).budget - (wants 700).sumS - 200 = 0
      ∧ collapse.adm.lvd = false ∧ 390 ≤ collapse.adm.entries[lightEntry].grant
      ∧ collapse.adm.entries[lightEntry].grant < 391 := by decide
theorem test_witness_ShedPassTakesInOrder :
    let a : Adm := { collapse.adm with budget := 700, fUsed := 0 }
    let comfort : List (Fin 20) := [9, 3, 5]
    a.queue.Nodup ∧ a.granted.Nodup ∧ (∀ e, classFits e a.entries[e].cls)
      ∧ (∀ e, e ∈ a.granted ↔ (a.entries[e].counted = true ∧ a.entries[e].state = .granted))
      ∧ (∀ e, a.entries[e].counted = true → 0 < a.entries[e].grant → e ∈ a.granted ∨ (e = lightEntry ∧ e ∈ a.queue))
      ∧ comfort.Pairwise (fun d e => ((collapse.settings.rank e).getD 0) < ((collapse.settings.rank d).getD 0))
      ∧ (∀ e, e ∈ comfort ↔ (a.entries[e].cls = .comfort
        ∧ (if e = lightEntry then 0 < a.entries[e].grant else a.entries[e].state = .granted)))
      ∧ (∀ e ∈ comfort, 1 ≤ (collapse.settings.rank e).getD 0 ∧ (collapse.settings.rank e).getD 0 ≤ 20)
      ∧ (a.shedPass collapse.settings).2 = [6, 9, 3] ∧ collapse.adm.sumS ≤ collapse.adm.budget := by
  exact ⟨by decide, by decide, collapse_sound.classes, by decide, by decide, by decide, by decide, by decide, by decide,
    by decide⟩
/-- `base` with entry 9 granted, entry 12 waiting and entry 10 ESSENTIAL. -/
def general (lvd : Bool) : State :=
  let a := entryAt 9 .comfort 400 .granted (entryAt 12 .comfort 500 .waiting (entryAt 10 .essential 60 .granted base.adm))
  { base with adm := { a with granted := [9], queue := [12], lvd := lvd, budget := 500, fUsed := 0 } }
theorem general_sound : (general false).adm.sound := sound_of (by decide) (by decide) (by decide) (by decide) (by decide) (by decide)
    (by decide) (by decide) (by decide) (by decide) (by decide) (by decide)
theorem test_witness_DisconnectWithdrawsGrants :
    let s := general false
    s.calm = true ∧ s.adm.lvd = false ∧ s.drive.state ≠ .cranking ∧ s.adm.sound ∧ s.adm.floorGrant = 0
      ∧ bandOf (taper s.account.estimated s.account.socEff s.settings.battery.comfort s.settings.battery.reserve)
        = s.adm.band
      ∧ (∀ e : Fin 20, e.val < 7 →
        ¬ (e ∈ s.adm.granted ∨ e ∈ s.adm.queue ∨ (s.adm.entries[e].state = .granted ∧ s.adm.entries[e].cls = .essential)))
      ∧ dropped.calm = true ∧ dropped.adm.lvd = true ∧ (driven .cranking).drive.state = .cranking := by
  refine ⟨by decide, by decide, by decide, general_sound, by decide, by decide, by decide, by decide, by decide, by decide⟩
/-- `general` in disconnect with nothing to resume. -/
def held : State :=
  let a := entryAt 10 .essential 60 .waiting base.adm
  { base with adm := { a with lvd := true, exitTimer := 60000 } }
theorem held_sound : held.adm.sound := sound_of (by decide) (by decide) (by decide) (by decide) (by decide) (by decide)
    (by decide) (by decide) (by decide) (by decide) (by decide) (by decide)
theorem test_witness_DisconnectExitRestores :
    let s := held
    s.calm = true ∧ s.adm.lvd = true ∧ s.drive.state ≠ .cranking ∧ s.adm.sound ∧ s.adm.resume = []
      ∧ s.adm.entries[lightEntry].state = .off
      ∧ bandOf (taper s.account.estimated s.account.socEff s.settings.battery.comfort s.settings.battery.reserve)
        = s.adm.band
      ∧ (∀ e : Fin 20, e.val < 7 → ¬ (s.adm.entries[e].state = .waiting ∧ s.adm.entries[e].cls = .essential))
      ∧ s.adm.entries[(10 : Fin 20)].state = .waiting ∧ base.calm = true ∧ base.adm.lvd = false
      ∧ (driven .cranking).drive.state = .cranking := by
  refine ⟨by decide, by decide, by decide, held_sound, by decide, by decide, by decide, by decide, by decide, by decide,
    by decide, by decide⟩
/-- `base` with the general entry 9 of a class and a rating in its setting, and a budget. -/
def classed (c : LoadClass) (rating budget f : Nat) : State :=
  { base with
    settings := { base.settings with
      loads := { base.settings.loads with
        general := base.settings.loads.general.set 2 { cls := c, rating := rating, rank := 6 } } }
    adm := { base.adm with budget := budget, fUsed := f } }
theorem test_witness_LoadSetSwitchesOutput :
    base.open_ .panel = true ∧ base.open_ .remote = true ∧ (general false).open_ .panel = true
      ∧ 19 < (20 : Byte).toNat ∧ 1 < (2 : Byte).toNat ∧ (6 : Byte).toNat < 7 ∧ (1 : Byte).toNat ≤ 1
      ∧ ((7 : Fin 20).val = (7 : Byte).toNat ∧ 7 ≤ (7 : Fin 20).val) ∧ (19 : Fin 20).val = (19 : Byte).toNat
      ∧ (general false).adm.entries[(9 : Fin 20)].state ≠ .off ∧ base.adm.entries[(19 : Fin 20)].state = .off
      ∧ (general true).open_ .panel = true ∧ (general true).passive = true
      ∧ (general true).adm.entries[(9 : Fin 20)].state ≠ .off
      ∧ (let s := classed .essential 400 0 0
        s.open_ .panel = true ∧ s.settings.restClass 9 = .essential ∧ s.adm.uncounted 9 = true ∧ s.adm.lvd = false)
      ∧ (let s := classed .essential 400 0 0
        let t : State := { s with adm := { s.adm with lvd := true } }
        t.open_ .panel = true ∧ t.adm.lvd = true ∧ t.adm.entries[(9 : Fin 20)].state = .off)
      ∧ (let s := classed .comfort 400 600 0
        s.open_ .panel = true ∧ s.settings.restClass 9 = .comfort ∧ s.adm.queue = [] ∧ s.adm.room 9 .comfort 400 = true
          ∧ (classed .comfort 400 599 0).adm.room 9 .comfort 400 = false)
      ∧ (let s := classed .deferrable 400 600 400
        s.open_ .panel = true ∧ s.settings.restClass 9 = .deferrable ∧ s.adm.room 9 .deferrable 400 = true
          ∧ (classed .deferrable 400 600 399).adm.room 9 .deferrable 400 = false) := by decide

/-- A tank in its settle, with its last count and step, in `base`. -/
def tankAt (t : TankId) (last step : Option Nat) (full : Bool) (se : Settle) : State :=
  base.setTank t { base.tanks.get t with last := last, step := step, full := full, settle := se }
theorem test_witness_ScanStartsAndPulseCounts : base.calm = true ∧ (quiet .parkedSleep).calm = true := by decide
theorem test_witness_ScanCompletionJudgesReading :
    (tankAt .grey none none false .idle).calm = true ∧ (tankAt .grey none none false .idle).tanks.grey.settle = .idle
      ∧ (tankAt .grey none none false .void).calm = true ∧ (tankAt .grey none none false .void).tanks.grey.settle = .void
      ∧ (tankAt .grey none none false .settling).tanks.grey.last ≠ some 0
      ∧ (tankAt .black (some 4) (some 4) true .settling).tanks.black.step = some 4
      ∧ (tankAt .black (some 4) (some 3) false .settling).calm = true
      ∧ (tankAt .black (some 4) (some 3) false .settling).tanks.black.last = some base.settings.black.count
      ∧ (tankAt .black (some 4) (some 3) false .settling).tanks.black.step ≠ some 4
      ∧ (tankAt .black (some 4) (some 3) true .settling).tanks.black.full = true
      ∧ (tankAt .grey (some 3) (some 4) true .settling).tanks.grey.step ≠ some 3
      ∧ (tankAt .fresh (some 8) none false .settling).tanks.fresh.step.all (fun o => decide (o < 8)) = true
      ∧ (tankAt .fresh (some 1) (some 0) false .settling).tanks.fresh.step.all (fun o => decide (o < 1)) = true
      ∧ (tankAt .fresh (some 8) none false .settling).water.pump ≠ .dryLock
      ∧ (let s := (tankAt .fresh (some 6) (some 7) false .settling).withWater { base.water with vEst := some 74000 }
        s.calm = true ∧ s.tanks.fresh.step.any (fun o => decide (6 < o)) = true ∧ s.water.vEst.isSome = true
          ∧ s.water.pump ≠ .running)
      ∧ (List.range 4).map (fun i => (0x0F : Byte).getLsbD i) = [true, true, true, true]
      ∧ (let s (step : Option Nat) (pump : PumpState) (dry : Nat) (asks : Bool) : State :=
          { tankAt .fresh (some 0) step false .settling with
            water := { base.water with pump := pump, dryTimer := dry, vEst := some 5000, demand := asks } }
        (s none .running 20000 true).calm = true ∧ (s none .running 20000 true).passive = true
          ∧ (s none .running 20000 true).water.requested = false
          ∧ (s none .running 20000 true).tanks.fresh.step.all (fun o => decide (o < 0)) = true
          ∧ (s none .running 19999 true).water.dryTimer < 20000 ∧ (s (some 1) .running 20000 true).calm = true
          ∧ (s (some 1) .running 20000 true).tanks.fresh.step.any (fun o => decide (0 < o)) = true
          ∧ ([false, true].all fun asks =>
            let u := tankAt .fresh (some 1) (some 0) false .settling
            let v : State := { u with water := (s none .dryLock 0 asks).water }
            v.calm && v.tanks.fresh.step.all (fun o => decide (o < 1)) && v.water.pump == .dryLock
              && v.adm.entries[pumpEntry].state == .off && v.adm.uncounted pumpEntry) = true) := by decide
theorem test_witness_DemandAndDryLimitMovePump :
    (dry .disabled false).calm = true ∧ (dry .disabled false).water.pump ≠ .ready
      ∧ (dry .ready false).calm = true ∧ (dry .ready false).water.pump = .ready
      ∧ (dry .ready false).water.requested = false ∧ (dry .ready false).adm.lvd = false
      ∧ (dry .ready false).adm.entries[pumpEntry].state = .off ∧ (dry .ready false).adm.uncounted pumpEntry = true
      ∧ (dry .ready true).calm = true ∧ (dry .ready true).water.requested = true ∧ (dry .ready true).passive = true
      ∧ (dry .ready true).adm.entries[pumpEntry].state ≠ .off
      ∧ (dry .running true).calm = true ∧ (dry .running true).water.pump = .running
      ∧ (dry .running true).water.requested = true ∧ (dry .running true).passive = true
      ∧ (dry .running true).adm.entries[pumpEntry].state ≠ .off ∧ (dry .ready false).water.pump ≠ .running
      ∧ (expired (dry .running true)).calm = true ∧ (expired (dry .running true)).water.dryTimer = 120000
      ∧ (expired (dry .running true)).passive = true ∧ (dry .running true).tanks.fresh.step ≠ some 0
      ∧ (dry .running true).water.dryTimer < 20000
      ∧ (expired (dry .running false)).calm = true ∧ (dry .running false).water.requested = false := by decide
/-- A demand that has become ACTIVE. -/
def tapped (s : State) : State := s.withWater { s.water with demand := true }
theorem test_witness_PumpSwitchedAsTable :
    base.open_ .panel = true ∧ base.water.pump = .frostLock ∧ 1 < (2 : Byte).toNat
      ∧ (dry .ready false).open_ .panel = true ∧ (dry .running true).open_ .remote = true
      ∧ (dry .disabled false).open_ .panel = true ∧ (dry .disabled false).water.demand = false
      ∧ (dry .dryLock false).open_ .panel = true ∧ (dry .dryLock false).water.demand = false
      ∧ (tapped (dry .dryLock false)).open_ .panel = true ∧ (tapped (dry .disabled false)).water.demand = true
      ∧ (tapped (dry .dryLock false)).adm.lvd = false ∧ (tapped (dry .dryLock false)).adm.entries[pumpEntry].state = .off
      ∧ (tapped (dry .dryLock false)).adm.uncounted pumpEntry = true
      ∧ (dry .running true).water.requested = true ∧ (dry .running true).passive = true
      ∧ (dry .running true).adm.entries[pumpEntry].state ≠ .off
      ∧ (dry .dryLock false).open_ .remote = true ∧ (dry .dryLock false).water.requested = false
      ∧ (dry .ready false).water.requested = false := by decide
/-- A state with room for the glow, exactly, or one cA short of it. -/
def roomy (s : State) (budget : Nat) : State := s.withAdm { s.adm with budget := budget }
/-- A state in disconnect. -/
def lost (s : State) : State := s.withAdm { s.adm with lvd := true }
theorem test_witness_HeatSetsMode :
    (heating .lockout .off).open_ .panel = true ∧ (heating .lockout .off).heater.state = .lockout
      ∧ base.open_ .remote = true ∧ base.heater.state ≠ .lockout ∧ 1 < (2 : Byte).toNat
      ∧ (heating .standby .comfort).open_ .panel = true ∧ (heating .standby .comfort).heater.mode = .comfort
      ∧ (heating .glow .off).open_ .panel = true ∧ (heating .ignite .comfort).open_ .panel = true
      ∧ (heating .purge .comfort).open_ .panel = true
      ∧ (roomy base 1000).open_ .panel = true ∧ base.heater.state = .off ∧ base.heater.mode = .off
      ∧ (roomy base 1000).frostQuiet = true ∧ base.adm.entries[glowEntry].state = .off
      ∧ (roomy base 1000).adm.queue = [] ∧ (roomy base 1000).adm.room glowEntry .comfort 800 = true
      ∧ (roomy base 999).adm.room glowEntry .comfort 800 = false
      ∧ (lost base).open_ .panel = true ∧ (lost base).frostQuiet = true ∧ (lost base).adm.lvd = true
      ∧ (heating .run .comfort).open_ .panel = true ∧ (heating .run .comfort).frost.keep = false
      ∧ (heating .run .comfort).heater.mode ≠ .off ∧ (heating .run .comfort).purgeReady = true := by decide
/-- A heater in GLOW with entry 3 granted, and nothing else. -/
def glowing (m : HeatMode) : State :=
  let s := heating .glow m
  s.withAdm { entryAt 3 .comfort 800 .granted s.adm with granted := [3], budget := 1000 }
theorem test_witness_HeaterTimersEndPhases :
    (glowing .off).calm = true ∧ (glowing .off).drive.state ≠ .cranking ∧ (glowing .off).heater.mode = .off
      ∧ (glowing .off).purgeReady = true
      ∧ (glowing .comfort).calm = true ∧ (glowing .comfort).heater.mode ≠ .off ∧ (glowing .comfort).frostQuiet = true
      ∧ (glowing .comfort).adm.lvd = false ∧ (glowing .comfort).passive = true
      ∧ (glowing .comfort).adm.entries[glowEntry].state ≠ .off ∧ (glowing .comfort).adm.entries[fanEntry].state = .off
      ∧ (glowing .comfort).adm.uncounted fanEntry = true
      ∧ base.calm = true ∧ base.heater.state ≠ .glow ∧ base.heater.state ≠ .ignite ∧ base.heater.state ≠ .run
      ∧ (driven .cranking).calm = true
      ∧ (heating .ignite .comfort).calm = true ∧ (heating .ignite .comfort).drive.state ≠ .cranking
      ∧ (heating .ignite .comfort).purgeReady = true
      ∧ (let s := heating .run .comfort
        let t : State := { s with heater := { s.heater with flameRunning := true } }
        t.calm = true ∧ t.heater.state = .run ∧ t.heater.flameRunning = true ∧ t.purgeReady = true
          ∧ s.heater.flameRunning = false)
      ∧ (expired (glowing .off)).calm = true ∧ (expired (glowing .off)).heater.phase = 45000
      ∧ (expired (glowing .off)).purgeReady = true ∧ (expired (glowing .comfort)).calm = true
      ∧ (expired (glowing .comfort)).frostQuiet = true ∧ (expired (heating .ignite .comfort)).calm = true
      ∧ (expired (heating .ignite .comfort)).heater.phase = 90000 ∧ (expired (heating .ignite .comfort)).purgeReady = true
      ∧ (glowing .off).heater.phase < 45000 ∧ (expired (heating .run .comfort)).calm = true
      ∧ (expired (heating .run .comfort)).heater.flameTimer = 20000 ∧ (expired (heating .run .comfort)).purgeReady = true := by decide
/-- A heater in PURGE for a reason after some attempts, entry 2 held. -/
def purging (m : HeatMode) (r : PurgeReason) (n budget : Nat) : State :=
  let s := heating .purge m
  { s with
    heater := { s.heater with reason := r, attempts := n }
    adm := { entryAt 2 .prot 180 .granted s.adm with budget := budget } }
theorem test_witness_PurgeAndLockoutEnd :
    (expired <| purging .comfort .failedStart 2 0).calm = true ∧ (expired <| purging .comfort .failedStart 2 0).heater.state = .purge
      ∧ (expired <| purging .comfort .failedStart 2 0).frostQuiet = true ∧ (expired <| purging .comfort .failedStart 2 0).passive = true
      ∧ (expired <| purging .comfort .failedStart 2 0).adm.entries[glowEntry].state = .off
      ∧ (expired <| purging .comfort .failedStart 2 0).adm.entries[fanEntry].state ≠ .off
      ∧ (expired <| purging .comfort .flameOut 2 0).heater.reason = .flameOut
      ∧ (expired <| purging .off .modeOff 2 0).calm = true ∧ (expired <| purging .off .modeOff 2 0).heater.mode = .off
      ∧ (expired <| purging .comfort .satisfied 0 0).calm = true ∧ (expired <| purging .comfort .satisfied 0 0).heater.mode ≠ .off
      ∧ (expired <| purging .comfort .failedStart 1 1000).calm = true ∧ (expired <| purging .comfort .failedStart 1 1000).adm.lvd = false
      ∧ (expired <| purging .comfort .failedStart 1 1000).adm.queue = []
      ∧ ((expired <| purging .comfort .failedStart 1 1000).adm.entryOff fanEntry).room glowEntry .comfort 800 = true
      ∧ base.calm = true ∧ base.heater.state ≠ .purge
      ∧ (expired <| purging .comfort .satisfied 0 0).heater.phase = 120000 ∧ (purging .comfort .satisfied 0 0).heater.phase < 120000
      ∧ base.open_ .panel = true ∧ base.heater.state ≠ .lockout
      ∧ (heating .lockout .off).open_ .panel = true ∧ (heating .lockout .off).heater.mode = .off
      ∧ (heating .lockout .off).frostQuiet = true ∧ (heating .lockout .off).adm.entries[glowEntry].state = .off
      ∧ (heating .lockout .off).adm.entries[fanEntry].state = .off ∧ (heating .lockout .off).frost.keep = false
      ∧ (let s : State := { heating .lockout .off with frost := { base.frost with keep := true } }
        let t := roomy s 1000
        t.open_ .remote = true ∧ t.frost.keep = true ∧ t.adm.lvd = false ∧ t.adm.queue = [] ∧ t.frostQuiet = true
          ∧ t.adm.room glowEntry .comfort 800 = true) := by decide
theorem test_witness_LostSensorsLeaveNoValue :
    base.calm = true ∧ base.heater.cabinAbsence = 0 ∧ base.frost.hold = 0
      ∧ (let s : State := { base with heater := { base.heater with cabinAbsence := 1 } }
        s.calm = true ∧ 0 < s.heater.cabinAbsence)
      ∧ (let s : State := { base with frost := { base.frost with hold := 1 } }
        s.calm = true ∧ 0 < s.frost.hold ∧ s.frost.drainOpen = true)
      ∧ (let d := dry .ready false
        let s : State := { d with frost := { d.frost with hold := 60000 } }
        s.calm = true ∧ 0 < s.frost.hold ∧ s.settings.frostGuard = true ∧ s.frost.drainOpen = false
          ∧ s.heater.state ≠ .run ∧ s.heater.state ≠ .purge ∧ s.passive = true
          ∧ s.adm.entries[holdEntry].state ≠ .off ∧ s.water.requested = false)
      ∧ (let s : State := { heating .purge .off with frost := { (dry .ready false).frost with hold := 60000 } }
        s.calm = true ∧ 0 < s.frost.hold ∧ s.heater.state = .purge)
      ∧ (let d := dry .running true
        let s : State := { d with frost := { d.frost with hold := 60000 } }
        s.calm = true ∧ s.passive = true ∧ s.water.requested = true ∧ s.adm.entries[pumpEntry].state ≠ .off)
      ∧ (let s (d : Demand) : State := { heating .run .comfort with
          heater := { (heating .run .comfort).heater with demand := some d, cabinAbsence := 60000 }
          adm := entryAt 2 .essential 180 .granted base.adm }
        (s .high).calm = true ∧ (s .high).adm.lvd = false ∧ (s .high).adm.uncounted fanEntry = true
          ∧ (s .high).adm.entries[fanEntry].rating ≠ 80 ∧ (s .low).calm = true) := by decide
/-- A state with source current enough for every request. -/
def sunny (s : State) : State := s.withDrive { s.drive with f := 4000 }
theorem test_witness_SampleRunsHeater :
    let x (cabin exhaust : Int) := sampled (some 51) (some cabin) (some exhaust) none
    let ok (x : Sample) (s : State) : Bool :=
      s.calm && s.frostPassive x && s.motion.holder.isNone && (sampleAdmitted x s).adm.changes.isEmpty
        && !(sampleAdmitted x s).adm.lvd
    let sp := base.settings.setpoint
    ok (x 200 799) base = true ∧ base.heaterPassive = true ∧ ok (sampled (some 79) none none none) base = true
      ∧ ok (x 200 800) (heating .ignite .off) = true ∧ (sampleAdmitted (x 200 800) (heating .ignite .off)).purgeReady = true
      ∧ ok (x (sp + 10) 800) (heating .ignite .comfort) = true ∧ ok (x (sp - 20) 800) (heating .ignite .comfort) = true
      ∧ (sampleAdmitted (x (sp - 20) 800) (heating .ignite .comfort)).adm.uncounted fanEntry = true
      ∧ (sampleAdmitted (x (sp - 20) 800) (heating .ignite .comfort)).adm.entries[fanEntry].state = .off
      ∧ ok (x (sp + 10) 600) (heating .run .comfort) = true ∧ ok (x (sp + 9) 599) (heating .run .comfort) = true
      ∧ (sampleAdmitted (x (sp + 10) 600) (heating .run .comfort)).purgeReady = true
      ∧ (let s : State := { heating .run .comfort with heater := { (heating .run .comfort).heater with demand := some .low } }
        ok (x (sp + 9) 599) s = true ∧ s.heater.demand = some .low)
      ∧ ok (x (sp - 9) 0) (sunny (heating .standby .comfort)) = true
      ∧ ok (x (sp - 10) 0) (sunny (heating .standby .comfort)) = true ∧ (sunny (heating .standby .comfort)).frostQuiet = true
      ∧ (sampleAdmitted (x (sp - 10) 0) (sunny (heating .standby .comfort))).adm.queue = []
      ∧ (sampleAdmitted (x (sp - 10) 0) (sunny (heating .standby .comfort))).adm.room glowEntry .comfort 800 = true := by
  decide
theorem test_witness_SampleGuardsWaterAndMotors :
    let bay (t : Int) := sampled (some t) none none none
    let ok (x : Sample) (s : State) : Bool :=
      s.calm && s.heaterPassive && (sampleAdmitted x s).adm.changes.isEmpty
    let padded : State :=
      { base with water := { base.water with asking := true }, adm := entryAt 6 .deferrable 600 .waiting base.adm }
    let kept (st : HeaterState) (m : HeatMode) : State := { heating st m with frost := { base.frost with keep := true } }
    ok (bay 51) base = true ∧ base.motion.holder = none ∧ base.water.asking = false ∧ base.frost.keep = false
      ∧ base.settings.frostGuard = true ∧ base.frost.drainOpen = true
      ∧ (let s : State := { sunny base with settings := { base.settings with frostGuard := false } }
        ok (bay 40) s = true ∧ (sampleAdmitted (bay 40) s).adm.room padEntry .deferrable 600 = true
          ∧ (sampleAdmitted (bay 40) s).adm.queue = [] ∧ (sampleAdmitted (bay 40) s).adm.entries[padEntry].state = .off)
      ∧ ok (bay 60) padded = true ∧ (sampleAdmitted (bay 60) padded).passive = true
      ∧ (sampleAdmitted (bay 60) padded).adm.entries[padEntry].state ≠ .off
      ∧ ok (bay 50) (heating .glow .off) = true ∧ ok (bay 50) (heating .lockout .off) = true
      ∧ ok (bay 80) (kept .purge .frostKeep) = true ∧ ok (bay 80) (kept .lockout .off) = true
      ∧ ok nothing (dry .ready false) = true ∧ (dry .ready false).frost.water = none
      ∧ (sampleAdmitted nothing (dry .ready false)).passive = true
      ∧ (sampleAdmitted nothing (dry .ready false)).adm.entries[holdEntry].state ≠ .off
      ∧ (let s : State := { dry .running true with frost := { (dry .running true).frost with keep := true } }
        ok (bay 30) { s with water := { s.water with asking := true } } = true
          ∧ (sampleAdmitted (bay 30) s).adm.entries[pumpEntry].state ≠ .off)
      ∧ (let s := stepIn .moving .stow
        let x := sampled (some 51) none none (some ((s.settings.motion .step).stallThreshold + 1))
        let r := { s.motionRec .step with stallTimer := 200 }
        ok x s = true ∧ s.frostPassive x = true ∧ s.motion.holder = some .step ∧ (s.motionRec .awning).activity ≠ .moving
          ∧ readMotorI x = .valid ((s.settings.motion .step).stallThreshold + 1 : Nat) ∧ s.period = 200
          ∧ ok x (s.setRec .step { r with surge := true }) = true ∧ r.surge = false ∧ r.stallTimer + 200 = 400
          ∧ (sampleAdmitted x s).passiveBut motorEntry = true) := by decide
theorem test_witness_DrainOpensAndCloses :
    base.open_ .panel = true ∧ base.frost.drainOpen = true
      ∧ (dry .running true).open_ .remote = true ∧ (dry .running true).frost.drainOpen = false
      ∧ (dry .running true).passive = true ∧ (dry .running true).adm.entries[holdEntry].state ≠ .off
      ∧ (dry .running true).water.requested = true ∧ (dry .running true).adm.entries[pumpEntry].state ≠ .off
      ∧ (dry .ready false).open_ .panel = true ∧ (dry .ready false).passive = true
      ∧ (dry .ready false).water.requested = false
      ∧ base.settings.frostGuard = true ∧ base.frost.water.all (fun temp => decide (temp < 70)) = true
      ∧ (let s : State := { base with frost := { base.frost with water := some 70 } }
        s.open_ .panel = true ∧ s.frost.drainOpen = true ∧ s.frost.water.all (fun temp => decide (temp < 70)) = false
          ∧ s.water.pump = .frostLock ∧ s.adm.entries[holdEntry].state = .off ∧ s.adm.uncounted holdEntry = true)
      ∧ (let s : State := { base with settings := { base.settings with frostGuard := false } }
        s.open_ .panel = true ∧ s.settings.frostGuard = false) := by decide

theorem test_witness_MoveJudgedAndStarted :
    let away := driven .moving
    let there := moving { MotionRec.reset with stowedSw := true } .reset none none
    let turn := (moving (flying .moving .deploy) .reset (some .awning) none)
    (driven .parked).open_ .panel = true ∧ 1 < (2 : Byte).toNat
      ∧ (0 : Byte).toNat = actuatorIndex .awning ∧ (1 : Byte).toNat = actuatorIndex .step
      ∧ (0 : Byte).toNat = Direction.deploy.code ∧ (1 : Byte).toNat = Direction.stow.code
      ∧ (driven .parked).open_ .remote = true
      ∧ (moving .reset (faulted false false) none none).open_ .panel = true
      ∧ ((moving .reset (faulted false false) none none).motionRec .step).activity = .fault
      ∧ away.open_ .panel = true ∧ away.drive.state ≠ .parked ∧ (away.motionRec .step).activity ≠ .fault
      ∧ there.open_ .panel = true ∧ (there.motionRec .awning).activity = .idle
      ∧ (there.motionRec .awning).atEnd .stow = true
      ∧ ((driven .parked).motionRec .awning).atEnd .stow = false ∧ (driven .parked).motion.holder = none
      ∧ (driven .parked).adm.entries[motorEntry].state = .off ∧ (driven .parked).adm.uncounted motorEntry = true
      ∧ (roomy (driven .parked) 1400).open_ .panel = true
      ∧ (roomy (driven .parked) 1400).adm.room motorEntry .comfort (motorRating .awning) = true
      ∧ (roomy (driven .parked) 1399).adm.room motorEntry .comfort (motorRating .awning) = false
      ∧ (lost (driven .parked)).open_ .panel = true ∧ (lost (driven .parked)).adm.lvd = true
      ∧ turn.open_ .panel = true ∧ turn.motion.holder.isSome = true ∧ (turn.motionRec .step).activity = .idle
      ∧ (turn.motionRec .step).atEnd .stow = false
      ∧ (turn.motionRec .awning).inFlight = true ∧ (turn.motionRec .awning).direction = some .deploy
      ∧ (let s := moving (flying .paused .stow) .reset (some .awning) none
        s.open_ .panel = true ∧ (s.motionRec .awning).activity = .paused ∧ (s.motionRec .awning).direction ≠ some .deploy)
      ∧ (turn.motionRec .awning).activity = .moving ∧ (turn.motionRec .awning).requester ≠ some .routine
      ∧ (turn.motionRec .awning).atEnd .stow = false ∧ turn.motion.holder = some .awning
      ∧ turn.passiveBut motorEntry = true ∧ turn.adm.entries[motorEntry].cls = .comfort
      ∧ (let waits := moving (flying .moving .stow) (flying .waitDriver .stow) (some .awning) (some .step)
        waits.open_ .panel = true ∧ (waits.motionRec .step).activity = .waitDriver
          ∧ (waits.motionRec .step).direction ≠ some .deploy ∧ (waits.motionRec .step).requester ≠ some .routine)
      ∧ (let s := moving (flying .waitGrant .deploy) .reset (some .awning) none
        s.open_ .remote = true ∧ (s.motionRec .awning).direction = some Direction.stow.opposite
          ∧ s.adm.entries[motorEntry].cls = .comfort ∧ s.adm.uncounted motorEntry = true)
      ∧ (moving (flying .reversing .deploy) .reset (some .awning) none).open_ .panel = true
      ∧ (let s (budget : Nat) := roomy (motorHeld (moving (flying .moving .stow) .reset (some .awning) none)) budget
        (s 1400).open_ .panel = true ∧ ((s 1400).motionRec .awning).direction = some Direction.deploy.opposite
          ∧ (s 1400).adm.entries[motorEntry].cls = .prot ∧ (s 1400).drive.state = .parked ∧ (s 1400).adm.queue = []
          ∧ (s 1400).adm.room motorEntry .comfort (motorRating .awning) = true
          ∧ (s 1399).adm.room motorEntry .comfort (motorRating .awning) = false
          ∧ (lost (s 0)).open_ .panel = true ∧ (lost (s 0)).adm.lvd = true) := by decide
/-- The awning in flight with the driver and entry 1, a stow of the step waiting. -/
def passing (act : Activity) (d : Direction) : State :=
  motorHeld (moving (flying act d) (flying .waitDriver .stow) (some .awning) (some .step))
/-- A run of routine 3 at the step that moves the entry step. -/
def onStep : Run := { call := { routine := 3, caller := .panel }, step := 1, phase := .onMotion .step, timer := 0 }
/-- The step in flight for routine 3, whose only step it is. -/
def routed (act : Activity) (d : Direction) : State :=
  let s := stepIn act d
  { s with
    settings := { s.settings with routines := s.settings.routines.set 0 [.move .step d] }
    motion := { s.motion with recs := { s.motion.recs with step := { flying act d with requester := some .routine } } }
    runner := { s.runner with run := some onStep } }
theorem test_witness_EndSwitchEndsMotion :
    let s := stepIn .moving .stow
    let w := motorHeld (moving (flying .moving .stow) (flying .waitDriver .stow) (some .awning) (some .step))
    (moving .reset (faulted false false) none none).calm = true
      ∧ (moving .reset (faulted false false) none none).motion.recs.step.activity = .fault
      ∧ base.calm = true ∧ (base.motionRec .awning).activity = .idle ∧ (base.motionRec .awning).requester = none
      ∧ ({ base.motionRec .awning with stowedSw := true } : MotionRec).conflict = false
      ∧ s.calm = true ∧ (s.motionRec .step).inFlight = true ∧ (s.motionRec .step).direction ≠ some .deploy
      ∧ (let u := moving { MotionRec.reset with deployedSw := true } .reset none none
        u.calm = true ∧ ({ u.motionRec .awning with stowedSw := true } : MotionRec).conflict = true
          ∧ u.motion.holder ≠ some .awning ∧ u.motion.waiter ≠ some .awning)
      ∧ (let u := moving .reset { flying .moving .stow with deployedSw := true } none (some .step)
        ({ u.motionRec .step with stowedSw := true } : MotionRec).conflict = true)
      ∧ ({ s.motionRec .step with stowedSw := true } : MotionRec).conflict = false
      ∧ (s.motionRec .step).direction = some .stow ∧ s.aloneAt .step = true
      ∧ w.calm = true ∧ (w.motionRec .awning).inFlight = true ∧ (w.motionRec .awning).direction = some .stow
      ∧ (w.motionRec .awning).requester ≠ some .routine ∧ w.motion.holder = some .awning ∧ w.motion.waiter = some .step
      ∧ w.passiveBut motorEntry = true ∧ w.adm.entries[motorEntry].state ≠ .off
      ∧ (w.motionRec .step).direction = some .stow ∧ (w.motionRec .step).atEnd .stow = false
      ∧ (let u := (passing .moving .stow).setRec .awning { flying .moving .stow with stowedSw := true }
        w.runner.run = none ∧ u.handsOver .awning .step = true)
      ∧ (let u := (passing .moving .stow).setRec .awning { flying .moving .stow with stowedSw := true, deployedSw := true }
        u.handsOver .awning .step = true ∧ ({ flying .moving .stow with deployedSw := true } : MotionRec).inFlight = true)
      ∧ (let r : MotionRec := { flying .moving .stow with requester := some .routine, stowedSw := true }
        let u := (routed .moving .stow).setRec .step r
        (routed .moving .stow).calm = true ∧ r.conflict = false ∧ u.routineAt .step onStep = true
          ∧ onStep.step = (routineSteps u.settings onStep.call.routine).length ∧ 1 ≤ onStep.step
          ∧ (u.setRec .step { r with deployedSw := true }).routineAt .step onStep = true) := by decide
theorem test_witness_MotionTimersExpire :
    (stepIn .reversing .stow).calm = true ∧ ((stepIn .reversing .stow).motionRec .step).activity = .reversing
      ∧ (stepIn .reversing .stow).adm.isGranted motorEntry = true
      ∧ (let s := moving .reset (flying .reversing .deploy) (some .step) none
        s.calm = true ∧ s.adm.isGranted motorEntry = false)
      ∧ (stepIn .waitGrant .deploy).calm = true ∧ (stepIn .waitGrant .deploy).aloneAt .step = true
      ∧ ((stepIn .waitGrant .deploy).motionRec .step).activity = .waitGrant
      ∧ (stepIn .moving .deploy).calm = true ∧ (stepIn .moving .deploy).aloneAt .step = true
      ∧ ((stepIn .moving .deploy).motionRec .step).activity = .moving
      ∧ base.calm = true ∧ (base.motionRec .step).activity = .idle
      ∧ (expired (stepIn .reversing .stow)).calm = true
      ∧ ((expired (stepIn .reversing .stow)).motionRec .step).reversal = 500
      ∧ (expired (stepIn .reversing .stow)).adm.isGranted motorEntry = true
      ∧ (expired (stepIn .waitGrant .deploy)).aloneAt .step = true
      ∧ ((expired (stepIn .waitGrant .deploy)).motionRec .step).grantWait = 30000
      ∧ (expired (stepIn .moving .deploy)).aloneAt .step = true ∧ ((stepIn .moving .deploy).motionRec .step).travel < 6000
      ∧ ((expired (stepIn .moving .deploy)).motionRec .step).travel = 6000
      ∧ (expired (passing .waitGrant .deploy)).calm = true ∧ (expired (passing .waitGrant .deploy)).handsOver .awning .step = true
      ∧ (expired (passing .moving .stow)).calm = true ∧ (expired (passing .moving .stow)).handsOver .awning .step = true
      ∧ (expired (routed .waitGrant .deploy)).calm = true ∧ (expired (routed .waitGrant .deploy)).routineAt .step onStep = true
      ∧ (expired (routed .moving .stow)).calm = true ∧ (expired (routed .moving .stow)).routineAt .step onStep = true := by decide
theorem test_witness_MotionStopsAndFaultClears :
    let s := stepIn .moving .stow
    let w := motorHeld (moving (flying .moving .stow) (flying .waitDriver .stow) (some .awning) (some .step))
    base.open_ .vehicle = true ∧ 2 < (3 : Byte).toNat ∧ (1 : Byte).toNat = actuatorIndex .step
      ∧ (base.motionRec .step).inFlight = false ∧ (base.motionRec .awning).inFlight = false ∧ base.motion.waiter = none
      ∧ s.open_ .panel = true ∧ (s.motionRec .step).inFlight = true ∧ s.aloneAt .step = true
      ∧ (s.motionRec (otherActuator .step)).inFlight = false
      ∧ w.open_ .remote = true ∧ (w.motionRec .step).inFlight = true ∧ (w.motionRec .step).requester ≠ some .routine
      ∧ w.motion.waiter = some .step ∧ w.motion.holder = some (otherActuator .step)
      ∧ (w.motionRec .awning).inFlight = true ∧ (w.motionRec .awning).requester ≠ some .routine
      ∧ w.motion.holder = some .awning ∧ w.motion.waiter = some (otherActuator .awning)
      ∧ w.passiveBut motorEntry = true ∧ base.open_ .panel = true ∧ 1 < (2 : Byte).toNat
      ∧ (base.motionRec .step).activity ≠ .fault
      ∧ (moving .reset (faulted true true) none none).open_ .panel = true
      ∧ ((moving .reset (faulted true true) none none).motionRec .step).conflict = true
      ∧ (moving .reset (faulted true false) none none).open_ .panel = true
      ∧ ((moving .reset (faulted true false) none none).motionRec .step).activity = .fault
      ∧ ((moving .reset (faulted true false) none none).motionRec .step).conflict = false
      ∧ (passing .moving .stow).open_ .panel = true ∧ (passing .moving .stow).handsOver .awning .step = true
      ∧ (routed .moving .stow).open_ .vehicle = true ∧ (routed .moving .stow).routineAt .step onStep = true
      ∧ ((routed .moving .stow).motionRec .step).inFlight = true := by decide

/-- `base` with the lamps of section 7.10, their demand not yet asked for. -/
def dimmed (budget : Nat) : State :=
  { base with
    settings := { scene1 with light := { base.settings.light with rated := lamps.rated } }
    light := lamps
    adm := { base.adm with budget := budget } }
theorem test_witness_SceneSetsTargets :
    base.adm.sound ∧ (dimmed 590).adm.sound ∧ (dimmed 590).open_ .panel = true ∧ ((dimmed 590).litTo lamps).isSome = true
      ∧ base.open_ .panel = true ∧ 7 < (8 : Byte).toNat ∧ 2 < (3 : Byte).toNat ∧ (7 : Fin 8).val = (7 : Byte).toNat
      ∧ (2 : Byte).toNat ≤ 2 ∧ (base.litTo base.light).isSome = true :=
  ⟨base_sound, sound_of (by decide) (by decide) (by decide) (by decide) (by decide) (by decide)
    (by decide) (by decide) (by decide) (by decide) (by decide) (by decide), by decide⟩
theorem test_witness_FadeReachesTargetInTime :
    inScope base.light.channels[(0 : Fin 12)] .all = true
      ∧ (let c : Channel := { base.light.channels[0] with present := 0, target := 200, step := fadeStep 10 200 0 }
        c.present ≤ 255 ∧ c.target ≤ 255 ∧ c.step = fadeStep 10 c.target c.present ∧ c.step = 2)
      ∧ fadeStep 0 255 0 = 255 ∧ fadeStep 255 255 0 = 1 := by decide
/-- `base` with a window of channels 2 to 4 on PANEL. -/
def windowed (st : Bool) (row : List Nat) (ptr : Nat) : State :=
  base.withLight { base.light with
    ports := base.light.ports.set .panel
      { window := some { first := 2, last := 4, staged := st, pointer := ptr, row := row }, discarded := 0 } }
theorem test_witness_LevelsWriteThroughWindow :
    (windowed false [] 4).adm.sound ∧ (windowed true [9, 9] 4).adm.sound
      ∧ base.open_ .panel = true ∧ (4 : Byte).toNat < (5 : Byte).toNat ∧ 11 < (12 : Byte).toNat
      ∧ ([] : List Byte).length = 0 ∧ (40 < (List.replicate 41 (1 : Byte)).length ∧ (List.replicate 45 (1 : Byte)).length ≤ 45)
      ∧ (List.replicate 40 (1 : Byte)).length ≤ 40
      ∧ (base.litTo (windowed false [] 2).light).isSome = true
      ∧ ([100, 0] : List Byte).any (· != 0) = true ∧ ([0, 0] : List Byte).any (· != 0) = false
      ∧ (windowed false [] 4).open_ .panel = true ∧ (windowed true [9, 9] 4).open_ .panel = true
      ∧ ((windowed true [9, 9] 4).litTo (windowed true [9, 9] 4).light).isSome = true :=
  ⟨base_sound, base_sound, by decide⟩
theorem test_witness_FrameBoundaryMovesAndDrives :
    base.adm.sound ∧ (dimmed 590).adm.sound ∧ (lost (dimmed 0)).adm.sound
      ∧ base.calm = true ∧ base.sleep.state ≠ .parkedSleep ∧ (quiet .parkedSleep).calm = true
      ∧ (quiet .parkedSleep).sleep.state = .parkedSleep ∧ (dimmed 590).calm = true
      ∧ ((dimmed 590).litTo lamps).isSome = true ∧ ((dimmed 589).litTo lamps).isSome = false
      ∧ (lost (dimmed 0)).calm = true ∧ ((lost (dimmed 0)).litTo lamps).isSome = true
      ∧ overlaid.calm = true ∧ (overlaid.litTo { overlaid.light with commits := [] }).isSome = true
      ∧ overlaid.light.commits.any (fun c => (c.levels.take (12 - c.first)).any (· != 0)) = true :=
  ⟨base_sound, sound_of (by decide) (by decide) (by decide) (by decide) (by decide) (by decide)
    (by decide) (by decide) (by decide) (by decide) (by decide) (by decide), sound_of (by decide) (by decide) (by decide) (by decide) (by decide) (by decide)
    (by decide) (by decide) (by decide) (by decide) (by decide) (by decide), by decide⟩

theorem test_witness_RoutinesCalledAndCancelled :
    let busy : State := { waiting3 1 with runner := { (waiting3 1).runner with
      pendingCall := some { routine := 0, caller := .remote } } }
    let stow := routine3 [.move .step .stow]
    let onStep : State := { (stepIn .moving .stow) with
      settings := stow.settings
      runner := { base.runner with
        run := some { call := { routine := 3, caller := .panel }, step := 1, phase := .onMotion .step, timer := 0 } } }
    base.open_ .panel = true ∧ 7 < (8 : Byte).toNat ∧ (7 : Fin 8).val = (7 : Byte).toNat
      ∧ routineSteps base.settings 7 = []
      ∧ busy.open_ .panel = true ∧ busy.open_ .remote = true ∧ routineSteps busy.settings 3 ≠ []
      ∧ busy.runner.run.isSome = true ∧ busy.runner.pendingCall.isSome = true
      ∧ (waiting3 1).open_ .remote = true ∧ (waiting3 1).runner.pendingCall = none
      ∧ (routine3 [.wait 1]).open_ .panel = true ∧ (routine3 [.wait 1]).runner.run = none
      ∧ (routineSteps (routine3 [.wait 1]).settings 3).head? = some (.wait 1)
      ∧ (routineSteps (driven .moving).settings 1).head? = some .requireParked ∧ (driven .moving).open_ .panel = true
      ∧ (driven .moving).drive.state ≠ .parked
      ∧ stow.open_ .panel = true ∧ (routineSteps stow.settings 3).head? = some (.move .step .stow)
      ∧ (stow.motionRec .step).activity = .idle ∧ (stow.motionRec .step).atEnd .stow = false
      ∧ stow.motion.holder = none ∧ stow.adm.entries[motorEntry].state = .off ∧ stow.adm.uncounted motorEntry = true
      ∧ (busy.runner.pendingCall.map (·.caller)) ≠ some .panel ∧ (busy.runner.pendingCall.map (·.caller)) = some .remote
      ∧ base.runner.run = none ∧ (waiting3 1).open_ .panel = true
      ∧ (waiting3 1).runner.run = some { call := { routine := 3, caller := .panel }, step := 1, phase := .onTimer, timer := 100 }
      ∧ onStep.open_ .panel = true ∧ (onStep.motionRec .step).inFlight = true ∧ onStep.motion.holder = some .step
      ∧ onStep.motion.waiter = none ∧ onStep.passiveBut motorEntry = true ∧ onStep.runner.pendingCall = none := by decide
theorem test_witness_StepTimerCompletesWait :
    base.calm = true ∧ base.runner.run = none ∧ (waiting3 2).calm = true ∧ (waiting3 2).drive.state ≠ .cranking
      ∧ 2 = (routineSteps (waiting3 2).settings 3).length ∧ (waiting3 2).runner.pendingCall = none
      ∧ (waiting3 1).calm = true ∧ (routineSteps (waiting3 1).settings 3)[1]? = some (.wait 5)
      ∧ (let s : State := { waiting3 1 with drive := { base.drive with state := .cranking } }
        s.calm = true ∧ s.drive.state = .cranking)
      ∧ (expired (waiting3 2) 5000).calm = true ∧ (expired (waiting3 2) 4999).calm = true
      ∧ (expired (waiting3 2) 5000).runner.run = some
        { call := { routine := 3, caller := .panel }, step := 2, phase := .onTimer, timer := 5000 }
      ∧ (routineSteps (waiting3 2).settings 3)[2 - 1]? = some (.wait 5)
      ∧ (expired (waiting3 1) 600000).calm = true ∧ (routineSteps (waiting3 1).settings 3)[1 - 1]? = some (.wait 600)
      ∧ (let s : State := { expired (waiting3 2) 5000 with runner := { (expired (waiting3 2) 5000).runner with
            pendingCall := some { routine := 3, caller := .remote } } }
        s.calm = true ∧ (routineSteps s.settings 3).head? = some (.wait 600)) := by decide

/-- `base` with an assembler on PANEL. -/
def assembling (a : Assembler) : State :=
  { base with ports := { base.ports with panel := { linked with asm := a } } }
/-- Section 10.6: DETACH with TAG 0x11: KIND, TAG, LEN, CHECK. -/
theorem test_witness_ReceiverAssemblesFrames :
    (quiet .parkedSleep).calm = true ∧ (quiet .parkedSleep).ports.vehicle.line = .looking
      ∧ base.calm = true ∧ base.sleep.state ≠ .parkedSleep ∧ State.reset.calm = true
      ∧ State.reset.ports.panel.line ≠ .looking
      ∧ base.ports.panel.asm = .hunting ∧ (assembling .sync1).calm = true ∧ (assembling .sync1).ports.panel.asm = .sync1
      ∧ (assembling (.inFrame [0x02, 0x11] 0)).calm = true
      ∧ (assembling (.inFrame [0x02, 0x11] 0)).ports.panel.asm.frame = some ([0x02, 0x11], 0)
      ∧ 48 < (49 : Byte).toNat ∧ (48 : Byte).toNat ≤ 48 ∧ 4 ≤ 3 + 1
      ∧ (assembling (.inFrame [0x02, 0x11, 0, 0] 2)).ports.panel.asm.frame = some ([0x02, 0x11, 0, 0], 2)
      ∧ ([0x02, 0x11, 0, 0, 0x13] : List Byte).length = 5 + (([0x02, 0x11, 0, 0, 0x13] : List Byte).getD 2 0).toNat
      ∧ ((([0x02, 0x11, 0] : List Byte).map (·.toNat)).sum % 65536) = 0 * 256 + (0x13 : Byte).toNat
      ∧ ((([0x02, 0x11, 0] : List Byte).map (·.toNat)).sum % 65536) ≠ 0 * 256 + (0x14 : Byte).toNat := by decide
theorem test_witness_PortTakesFramesAndBreaks :
    let sl : Slot := { frame := { kind := 0x05, tag := 1, body := [] }, delivered := true }
    let tx : TxFrame := { kind := 0x83, tag := 1, body := [0, 0], restart := false }
    let at_ (x : Port) : State := { base with ports := { base.ports with remote := x } }
    (at_ { linked with line := .broken }).calm = true ∧ (at_ { linked with line := .broken }).ports.remote.line = .broken
      ∧ base.calm = true ∧ base.ports.vehicle.line ≠ .broken ∧ base.ports.vehicle.holdsRestart = false
      ∧ base.drive.state = .unknown ∧ 0x80 ≤ (0x80 : Byte).toNat ∧ (List.replicate 48 (1 : Byte)).length ≤ 48
      ∧ State.reset.calm = true ∧ State.reset.ports.remote.attached = false ∧ State.reset.ports.remote.answer = none
      ∧ (let s : State := { base with ports := { base.ports with remote := { Port.reset with
            sending := some tx, answer := some tx } } }
        s.calm = true ∧ s.ports.remote.attached = false ∧ s.ports.remote.answer.isSome = true)
      ∧ (at_ { linked with slotA := some sl }).calm = true
      ∧ (at_ { linked with slotA := some sl }).ports.remote.slotA.any (·.delivered) = true
      ∧ (at_ { linked with slotA := some sl }).ports.remote.slotB = none
      ∧ (at_ { linked with slotA := some sl, slotB := some sl.frame }).calm = true
      ∧ base.open_ .remote = true ∧ kindOf 0x07 = none ∧ kindOf 0x10 = some .drive ∧ admits .remote .drive = false
      ∧ kindOf 0x20 = some .loadSet ∧ admits .remote .loadSet = true ∧ ReqKind.loadSet.lenFits 1 = false
      ∧ base.ports.remote.sending = none
      ∧ (at_ { linked with sending := some tx, answer := some tx }).calm = true
      ∧ (at_ { linked with sending := some tx }).calm = true ∧ (at_ { linked with sending := some tx }).ports.remote.waiting = false
      ∧ (at_ { linked with sending := some tx, queue := [{ kind := .drain, cls := .water, index := 0 }] }).calm = true
      ∧ tx.restart = false
      ∧ (let done : TxFrame := { kind := 0x86, tag := 1, body := [0], restart := true }
        let held : State := { base with
          restarting := true
          ports := { base.ports with panel := { linked with answer := some done, sending := some tx } } }
        held.calm = true ∧ held.ports.panel.holdsRestart = true ∧ (held.portLost .panel).isSome = true
          ∧ (let s : State := { base with restarting := true, ports := { base.ports with panel := { linked with sending := some done } } }
            s.calm = true ∧ done.restart = true))
      ∧ (base.portLost .vehicle).isSome = true ∧ ((driven .moving).portLost .vehicle).isSome = true
      ∧ (driven .cranking).calm = true ∧ ((driven .cranking).portLost .vehicle).isSome = true
      ∧ (stepIn .moving .deploy).calm = true ∧ ((stepIn .moving .deploy).portLost .vehicle).isSome = true := by decide
theorem test_witness_AttachDetachRestart :
    base.open_ .panel = true ∧ base.open_ .vehicle = true ∧ base.drive.state = .unknown ∧ (2 : Byte) ≠ 1
      ∧ 0x4000 ≤ (0x4000 : Half).toNat ∧ ¬ 0x4000 ≤ (0x3FFF : Half).toNat
      ∧ State.reset.calm = true ∧ State.reset.ports.panel.attached = false ∧ State.reset.ports.panel.answer = none
      ∧ State.reset.ports.panel.slotA = none
      ∧ (base.portLost .panel).isSome = true ∧ (driven .ready).open_ .vehicle = true
      ∧ ((driven .ready).portLost .vehicle).isSome = true ∧ (stepIn .moving .deploy).open_ .vehicle = true
      ∧ ((stepIn .moving .deploy).portLost .vehicle).isSome = true := by decide
theorem test_witness_ReadAnswersImages :
    base.open_ .vehicle = true ∧ classOf (0 : Byte).toNat = none ∧ classOf (15 : Byte).toNat = none
      ∧ classOf (5 : Byte).toNat = some .load ∧ RecClass.load.size ≤ (20 : Byte).toNat
      ∧ (19 : Byte).toNat < RecClass.load.size ∧ 1 ≤ (4 : Byte).toNat ∧ (4 : Byte).toNat ≤ 4 ∧ 4 < (5 : Byte).toNat := by
  decide
theorem test_witness_WriteChecksInOrder :
    base.open_ .panel = true ∧ ([] : List Byte).length ≤ 44 ∧ classOf (15 : Byte).toNat = none
      ∧ classOf (9 : Byte).toNat = some .heater ∧ RecClass.heater.size ≤ (1 : Byte).toNat ∧ (0 : Byte).toNat < RecClass.heater.size
      ∧ (fieldForms .heater 0).length = 15 ∧ dealValues 0x0002 0 (fieldForms .heater 0) [1] = none
      ∧ (dealValues 0x0002 0 (fieldForms .heater 0) [1, 2]).isSome = true
      ∧ ((fieldForms .heater 0)[0]?.map (·.writable)) = some false ∧ ((fieldForms .heater 0)[1]?.map (·.writable)) = some true
      ∧ (let s : State := { base with saving := some { snapshot := .defaults, elapsed := 0 } }
        s.open_ .panel = true ∧ s.saving.isSome = true) := by decide
theorem test_witness_WritesTakeSettings :
    base.open_ .remote = true ∧ base.saving = none ∧ base.settings.valid = true
      ∧ ((7 : Fin 20).val = (7 : Byte).toNat ∧ 7 ≤ (7 : Fin 20).val) ∧ (19 : Fin 20).val = (19 : Byte).toNat
      ∧ ({ count := 2, marks := [3000, 8000, 19000] } : TankSettings).valid = true ∧ base.frost.keep = false
      ∧ (11 : Fin 12).val = (11 : Byte).toNat ∧ (7 : Fin 8).val = (7 : Byte).toNat
      ∧ (4 : Fin 5).val + 3 = (7 : Byte).toNat ∧ (0 : Fin 5).val + 3 = (3 : Byte).toNat
      ∧ routineValid [] = true ∧ routineValid (List.replicate 12 (.wait 600)) = true
      ∧ (general false).open_ .panel = true ∧ (general false).adm.entries[(9 : Fin 20)].state ≠ .off
      ∧ (general false).settings.valid = true ∧ (general false).saving = none := by decide
theorem test_witness_WritesJudgedAsListed :
    let s : State := { base with adm := entryAt 9 .comfort 400 .granted base.adm }
    base.open_ .panel = true ∧ base.saving = none ∧ base.settings.valid = true ∧ base.settings.grey.count = 4
      ∧ ([1, 2, 3] : List Byte).length = 3 ∧ ([1] : List Byte).length = 1
      ∧ s.open_ .panel = true ∧ s.adm.entries[(9 : Fin 20)].state = .granted ∧ s.settings.loads.general[2].rating ≠ 450
      ∧ s.saving = none ∧ s.settings.valid = true := by decide
theorem test_witness_SaveCompletesAndSleepBegins :
    let s := ran (.save .panel 0x31) base
    base.open_ .panel = true ∧ base.saving = none ∧ base.calm = true
      ∧ (let u : State := { base with saving := some { snapshot := .defaults, elapsed := 0 } }
        u.open_ .remote = true ∧ u.saving.isSome = true ∧ u.calm = true ∧ Settings.defaults.valid = true
          ∧ u.ports.panel.slotA = none ∧ u.ports.remote.slotA = none ∧ u.ports.vehicle.slotA = none)
      ∧ s.calm = true ∧ s.saving.isSome = true ∧ s.ports.panel.slotA.any (·.delivered) = true
      ∧ s.ports.panel.answer = none ∧ s.ports.panel.slotB = none ∧ s.ports.remote.slotA = none
      ∧ s.ports.vehicle.slotA = none ∧ (quiet .sleepPending).calm = true
      ∧ (quiet .sleepPending).sleep.state = .sleepPending ∧ base.sleep.state ≠ .sleepPending
      ∧ (expired (quiet .sleepPending)).calm = true ∧ (expired (quiet .sleepPending)).sleep.idle = 60000
      ∧ (quiet .sleepPending).sleep.idle < 60000 := by decide

end Sys2Proof.Tests
end

section
/-! PROOFS. The battery account: the capacity factors of the bands (section 1.6), the capacity formed from them (R12), and
how a change of band (R13 to R15), a change of the battery's settings (R7) and power-on (R4) form it. -/

namespace Sys2Proof.Machine

/-! ### The factors and the capacity -/

theorem ten_dvd_of_mem_bandFactors {chem : Chemistry} {k : Nat} (hk : k ∈ bandFactors chem) : 10 ∣ k := by
  revert k
  cases chem <;> decide

theorem bandFactors_bounds {chem : Chemistry} {k : Nat} (hk : k ∈ bandFactors chem) : 600 ≤ k ∧ k ≤ 1000 := by
  revert k
  cases chem <;> decide

/-- The factor 3600 of R12 and the 10 in every per-mille factor. -/
theorem dvd_capacity {k : Nat} (hk : 10 ∣ k) (cnom : Nat) : 36000 ∣ capacity cnom k :=
  Nat.mul_dvd_mul (Nat.dvd_mul_left 3600 cnom) hk

theorem capacity_mono {c c' k k' : Nat} (hc : c ≤ c') (hk : k ≤ k') : capacity c k ≤ capacity c' k' :=
  Nat.mul_le_mul (Nat.mul_le_mul_right 3600 hc) hk

theorem capacity_least : capacity 20 600 = 43200000 := rfl

theorem capacity_greatest : capacity 800 1000 = 2880000000 := rfl

/-- The two extremes of R12 bound every capacity by monotonicity in C_nom and in k. -/
theorem capacity_bounds {chem : Chemistry} {k c : Nat} (hk : k ∈ bandFactors chem) (hlo : 20 ≤ c) (hhi : c ≤ 800) :
    43200000 ≤ capacity c k ∧ capacity c k ≤ 2880000000 := by
  obtain ⟨hleast, hgreatest⟩ := bandFactors_bounds hk
  rw [← capacity_least, ← capacity_greatest]
  exact ⟨capacity_mono hlo hleast, capacity_mono hhi hgreatest⟩

/-! ### Where the account forms its capacity -/

/-- A change of band forms charge, capacity, band and factor, and leaves the rest of the account. -/
theorem Account.toBand_of_ne {a : Account} {band : Nat} (h : band ≠ a.band) :
    a.toBand band = { a with
      q := a.q * capacity a.cnom (bandFactor a.chem band) / a.ct
      ct := capacity a.cnom (bandFactor a.chem band)
      band := band
      k := bandFactor a.chem band } := if_neg h

theorem Account.toBand_ct {a : Account} {band : Nat} (h : band ≠ a.band) :
    (a.toBand band).ct = capacity a.cnom (bandFactor a.chem band) := by
  rw [toBand_of_ne h]

/-- R7: the capacity is formed from the new settings and whichever band the account then stands in, kept or chosen anew. -/
theorem Account.takeSettings_ct {a : Account} {b : BatterySettings} (h : ¬ (b.chem = a.chem ∧ b.cnom = a.cnom)) :
    (a.takeSettings b).ct = capacity b.cnom (bandFactor b.chem (a.takeSettings b).band) := by
  rw [takeSettings, if_neg h]
  rfl

theorem Account.reset_ct (b : BatterySettings) :
    (Account.reset b).ct = capacity b.cnom (bandFactor b.chem (bandContaining b.chem 0)) := rfl

/-- Settles O16: every factor is a multiple of 10 from 600 to 1000, and each of the three events that form the capacity
forms it as `capacity` of the C_nom and the band then in force. -/
theorem capacityIsFormedFromTheBand : Obligations.CapacityIsFormedFromTheBand := by
  unfold Obligations.CapacityIsFormedFromTheBand
  refine ⟨fun _ _ => rfl, ?multiples, ?bounds, capacity_greatest, capacity_least, ?changeOfBand, ?changeOfSettings,
    Account.reset_ct⟩
  case multiples =>
    intro chem k hk c
    have h36000 : 36000 ∣ capacity c k := dvd_capacity (ten_dvd_of_mem_bandFactors hk) c
    exact ⟨h36000, Nat.dvd_trans (by decide) h36000⟩
  case bounds => exact fun _ _ hk _ => capacity_bounds hk
  case changeOfBand => exact fun _ _ => Account.toBand_ct
  case changeOfSettings => exact fun _ _ => Account.takeSettings_ct

end Sys2Proof.Machine
end

section
/-! PROOFS. The admission pass at an entry other than lighting (R56): when the entry fits, that the walk grants it there, and
what the grant changes in the load table. -/

namespace Sys2Proof.Machine

/-! ### The tests of R56 -/

/-- R56's two tests as the model runs them, with no difference of natural numbers to cut off at 0. -/
theorem Adm.fits_iff_sums (a : Adm) (e : Fin 20) :
    a.fits e = true ↔ a.entries[e].rating + Config.admissionMargin + a.sumS ≤ a.budget
      ∧ (a.entries[e].cls = .deferrable → a.entries[e].rating + a.sumD ≤ a.fUsed) := by
  simp only [fits, Bool.and_eq_true, Bool.or_eq_true, decide_eq_true_eq, bne_iff_ne, ne_eq,
    Decidable.imp_iff_not_or]

/-- R56's two tests as the manual writes them: against what is left of B and of F, which may be below 0. -/
theorem Adm.fits_iff_headroom (a : Adm) (e : Fin 20) :
    a.fits e = true ↔ (a.entries[e].rating : Int) + 200 ≤ (a.budget : Int) - a.sumS
      ∧ (a.entries[e].cls = .deferrable → (a.entries[e].rating : Int) ≤ (a.fUsed : Int) - a.sumD) := by
  have hB : a.entries[e].rating + Config.admissionMargin + a.sumS ≤ a.budget
      ↔ (a.entries[e].rating : Int) + 200 ≤ (a.budget : Int) - a.sumS := by
    rw [show Config.admissionMargin = 200 from rfl]
    omega
  have hF : a.entries[e].rating + a.sumD ≤ a.fUsed ↔ (a.entries[e].rating : Int) ≤ (a.fUsed : Int) - a.sumD := by
    omega
  rw [fits_iff_sums, hB, hF]

/-- R57: the walk grants an entry that fits where it reaches it, and goes on. -/
theorem Adm.walk_cons_of_fits {a : Adm} {e : Fin 20} (rest : List (Fin 20)) (he : e ≠ lightEntry) (h : a.fits e = true) :
    walk (e :: rest) a = walk rest (a.grantQueued e) := by
  rw [walk, if_neg he, if_pos h]

/-! ### The grant of an entry of the queue -/

/-- The row of an entry granted at its rating. -/
def Entry.grantedInFull (x : Entry) : Entry := { x with state := .granted, grant := x.rating, pass := 0 }

@[simp] theorem Entry.grantedInFull_cls (x : Entry) : x.grantedInFull.cls = x.cls := rfl
@[simp] theorem Entry.grantedInFull_grant (x : Entry) : x.grantedInFull.grant = x.rating := rfl
@[simp] theorem Entry.grantedInFull_counted (x : Entry) : x.grantedInFull.counted = x.counted := rfl

theorem Adm.grantQueued_same (a : Adm) (e : Fin 20) :
    (a.grantQueued e).entries[e] = a.entries[e].grantedInFull := setEntry_same a e _

theorem Adm.grantQueued_other (a : Adm) {e d : Fin 20} (h : d ≠ e) : (a.grantQueued e).entries[d] = a.entries[d] :=
  setEntry_other a e d _ h

@[simp] theorem Adm.grantQueued_queue (a : Adm) (e : Fin 20) : (a.grantQueued e).queue = a.queue.erase e := rfl
@[simp] theorem Adm.grantQueued_granted (a : Adm) (e : Fin 20) : (a.grantQueued e).granted = a.granted ++ [e] := rfl
@[simp] theorem Adm.grantQueued_budget (a : Adm) (e : Fin 20) : (a.grantQueued e).budget = a.budget := rfl
@[simp] theorem Adm.grantQueued_fUsed (a : Adm) (e : Fin 20) : (a.grantQueued e).fUsed = a.fUsed := rfl

/-- S rises by the rating of a counted entry that held nothing (R54). -/
theorem Adm.sumS_grantQueued (a : Adm) (e : Fin 20) (hc : a.entries[e].counted = true) (hg : a.entries[e].grant = 0) :
    (a.grantQueued e).sumS = a.sumS + a.entries[e].rating := by
  have hmove : (a.grantQueued e).sumS + _ = _ := sumS_setEntry a e a.entries[e].grantedInFull
  rwa [Entry.grantedInFull_counted, Entry.grantedInFull_grant, if_pos hc, if_pos hc, hg, Nat.add_zero] at hmove

/-- D rises by the rating of an entry that held nothing where the entry is DEFERRABLE, and stays where not (R54). -/
theorem Adm.sumD_grantQueued (a : Adm) (e : Fin 20) (hg : a.entries[e].grant = 0) :
    (a.grantQueued e).sumD = if a.entries[e].cls = .deferrable then a.sumD + a.entries[e].rating else a.sumD := by
  have hmove : (a.grantQueued e).sumD + _ = _ := sumD_setEntry a e a.entries[e].grantedInFull
  rw [Entry.grantedInFull_cls, Entry.grantedInFull_grant, hg, ite_self, Nat.add_zero] at hmove
  by_cases hd : a.entries[e].cls = .deferrable
  · rw [if_pos hd]
    rwa [if_pos (beq_iff_eq.mpr hd)] at hmove
  · rw [if_neg hd]
    rwa [if_neg (mt beq_iff_eq.mp hd), Nat.add_zero] at hmove

/-! ### The obligation -/

/-- Settles O26: the tests are those of `fits`, the walk grants an entry that meets them, and the grant moves one row, the
two lists and the sums. -/
theorem fittingEntryIsGranted : Obligations.FittingEntryIsGranted := by
  unfold Obligations.FittingEntryIsGranted
  intro a e rest he hcls hg
  have hcounted : a.entries[e].counted = true := by
    rwa [Entry.counted, Bool.or_eq_true, beq_iff_eq, beq_iff_eq]
  exact ⟨a.fits_iff_headroom e, Adm.walk_cons_of_fits rest he, a.grantQueued_same e, fun _ => a.grantQueued_other,
    a.grantQueued_queue e, a.grantQueued_granted e, a.grantQueued_budget e, a.grantQueued_fUsed e,
    a.sumS_grantQueued e hcounted hg, a.sumD_grantQueued e hg⟩

end Sys2Proof.Machine
end

section
/-! PROOFS. The motion records as R125 has them, with the actuators that may carry a deploy left open, so that it can be said
within one event too: what it asks of a record, and how the sequencer's ends and starts of a motion keep it. -/

namespace Sys2Proof.Machine

/-! ### What R125 asks of one record -/

/-- A record in flight has a direction and one at rest has none; a deploy is in flight only where it `may`; a PAUSED record
stands in CRANKING and carries a stow. -/
structure MotionRec.fits (d : DriveState) (may : Prop) (r : MotionRec) : Prop where
  directed : r.inFlight = r.direction.isSome
  deploy : r.direction = some .deploy → may
  paused : r.activity = .paused → d = .cranking ∧ r.direction = some .stow

/-- The record of one actuator fits the drive state in force. -/
def State.recFits (s : State) (may : Actuator → Prop) (a : Actuator) : Prop :=
  (s.motionRec a).fits s.drive.state (may a)

/-- Every record fits the drive state in force, and none but the actuators that `may` carries a deploy. -/
def State.deploysOnly (s : State) (may : Actuator → Prop) : Prop := ∀ a, s.recFits may a

section
variable {may : Actuator → Prop} {a : Actuator} {s t : State}

theorem MotionRec.fits.mono {d : DriveState} {p q : Prop} {r : MotionRec} (h : r.fits d p) (hpq : p → q) : r.fits d q :=
  ⟨h.directed, hpq ∘ h.deploy, h.paused⟩

theorem MotionRec.inFlight_iff (r : MotionRec) : r.inFlight = true ↔ r.activity ≠ .idle ∧ r.activity ≠ .fault := by
  simp [inFlight, atRest]

/-- A record in flight that carries no deploy carries a stow. -/
theorem MotionRec.stow_of_inFlight {r : MotionRec} (hdir : r.inFlight = r.direction.isSome) (hfly : r.inFlight = true)
    (hd : r.direction ≠ some .deploy) : r.direction = some .stow := by
  obtain ⟨d, h⟩ := Option.isSome_iff_exists.mp (hdir.symm.trans hfly)
  cases d with
  | stow => exact h
  | deploy => exact absurd h hd

/-- A record at rest without a direction. -/
theorem MotionRec.fits_of_rest {d : DriveState} {p : Prop} {r : MotionRec}
    (hact : r.activity = .idle ∨ r.activity = .fault) (hdir : r.direction = none) : r.fits d p := by
  constructor <;> rcases hact with hact | hact <;> simp [inFlight, atRest, hact, hdir]

/-- A record in flight in a direction and not PAUSED. -/
theorem MotionRec.fits_of_flight {d : DriveState} {p : Prop} {r : MotionRec} {dir : Direction}
    (hfly : r.inFlight = true) (hrun : r.activity ≠ .paused) (hdir : r.direction = some dir)
    (hmay : dir = .deploy → p) : r.fits d p :=
  ⟨by rw [hfly, hdir]; rfl, fun h => hmay (Option.some.inj (hdir.symm.trans h)), fun h => absurd h hrun⟩

/-- The fit of a record rests on its activity and direction alone. -/
theorem MotionRec.fits.congr {d : DriveState} {p : Prop} {r q : MotionRec} (h : r.fits d p)
    (hact : q.activity = r.activity) (hdir : q.direction = r.direction) : q.fits d p :=
  ⟨by simpa [inFlight, atRest, hact, hdir] using h.directed, by rw [hdir]; exact h.deploy,
    by rw [hact, hdir]; exact h.paused⟩

theorem State.recFits.of_rec (h : s.recFits may a) (hr : t.motionRec a = s.motionRec a) (hd : t.drive = s.drive) :
    t.recFits may a := by
  rwa [recFits, hr, hd]

/-- Where nothing touches the records and the drive state, the records still fit. -/
theorem State.deploysOnly.of_recs (h : s.deploysOnly may) (hm : t.motion.recs = s.motion.recs)
    (hd : t.drive.state = s.drive.state) : t.deploysOnly may := by
  intro a
  have hrec : t.motionRec a = s.motionRec a := congrArg (·.get a) hm
  rw [recFits, hrec, hd]
  exact h a

theorem State.deploysOnly.mono {may' : Actuator → Prop} (h : s.deploysOnly may) (hm : ∀ a, may a → may' a) :
    s.deploysOnly may' :=
  fun a => (h a).mono (hm a)

/-- The two records are an actuator's and the other's. -/
theorem State.deploysOnly_iff (a : Actuator) :
    s.deploysOnly may ↔ s.recFits may a ∧ s.recFits may (otherActuator a) := by
  refine ⟨fun h => ⟨h a, h _⟩, fun ⟨hself, hother⟩ b => ?_⟩
  cases a <;> cases b <;> assumption

/-- The invariant of the obligation: a deploy may be in flight only while the drive state is PARKED. -/
theorem State.deploysParked_iff : s.deploysParked ↔ s.deploysOnly fun _ => s.drive.state = .parked := by
  refine forall_congr' fun a => ⟨fun ⟨hdir, hdep, hpau⟩ => ?_, fun h => ?_⟩
  · have hparked : (s.motionRec a).direction = some .deploy → s.drive.state = .parked := by
      intro h
      exact hdep (by simp [MotionRec.deploying, hdir, h])
    refine ⟨hdir, hparked, fun hp => ⟨hpau hp, ?_⟩⟩
    have hfly : (s.motionRec a).inFlight = true := by simp [MotionRec.inFlight_iff, hp]
    refine MotionRec.stow_of_inFlight hdir hfly fun hd => ?_
    have hboth := (hpau hp).symm.trans (hparked hd)
    cases hboth
  · refine ⟨h.directed, fun hd => h.deploy ?_, fun hp => (h.paused hp).1⟩
    simp only [MotionRec.deploying, Bool.and_eq_true, beq_iff_eq] at hd
    exact hd.2

/-! ### The updates of a record -/

@[simp] theorem State.motionRec_setRec_other (s : State) (a : Actuator) (r : MotionRec) :
    (s.setRec a r).motionRec (otherActuator a) = s.motionRec (otherActuator a) := by
  simp [State.motionRec]

@[simp] theorem State.motionRec_withMotion_recs (s : State) (h w : Option Actuator) (d : DriveState) (b : Actuator) :
    (s.withMotion { s.motion with holder := h, waiter := w, awayRef := d }).motionRec b = s.motionRec b := rfl

@[simp] theorem request_motionRec (e : Fin 20) (c : LoadClass) (n : Nat) (s : State) (b : Actuator) :
    (request e c n s).motionRec b = s.motionRec b := by
  simp [State.motionRec]

/-- The record put in an actuator's place, the other's fitting already. -/
theorem State.deploysOnly_setRec {r : MotionRec} (hother : s.recFits may (otherActuator a))
    (hr : r.fits s.drive.state (may a)) : (s.setRec a r).deploysOnly may :=
  (deploysOnly_iff a).mpr ⟨by simpa [recFits] using hr, hother.of_rec (by simp) (by simp)⟩

theorem State.deploysOnly.request {e : Fin 20} {c : LoadClass} {n : Nat} (h : s.deploysOnly may) :
    (request e c n s).deploysOnly may :=
  h.of_recs (by simp) (by simp)

theorem State.deploysOnly.arbiter {h w : Option Actuator} {d : DriveState} (hs : s.deploysOnly may) :
    (s.withMotion { s.motion with holder := h, waiter := w, awayRef := d }).deploysOnly may :=
  hs.of_recs rfl rfl

/-- A record as the end of its motion leaves it (R118, R119, R121, R122). -/
def MotionRec.rested (act : Activity) (k : FaultKind) (res : MotionResult) (r : MotionRec) : MotionRec :=
  { r with
    activity := act, direction := none, requester := none, stallTimer := 0, surge := false
    grantWait := 0, reversal := 0, fault := k, result := res }

theorem restRecord_recs (a : Actuator) (act : Activity) (k : FaultKind) (res : MotionResult) (s : State) :
    (restRecord a act k res s).motion.recs = s.motion.recs.set a ((s.motionRec a).rested act k res) := by
  unfold restRecord
  dsimp only
  split <;> simp [MotionRec.rested]

/-! ### The ends and the starts of a motion -/

/-- A record brought to rest fits, whatever it carried. -/
theorem restRecord_deploysOnly {act : Activity} {k : FaultKind} {res : MotionResult} (hact : act = .idle ∨ act = .fault)
    (hother : s.recFits may (otherActuator a)) : (restRecord a act k res s).deploysOnly may := by
  have hset : (s.setRec a ((s.motionRec a).rested act k res)).deploysOnly may :=
    State.deploysOnly_setRec hother (MotionRec.fits_of_rest hact rfl)
  exact hset.of_recs (restRecord_recs ..) (by simp)

/-- A motor runs for a stow in any drive state, for a deploy not in CRANKING. -/
theorem runMotor_deploysOnly {d : Direction} (hdir : (s.motionRec a).direction = some d)
    (hdep : d = .deploy → may a ∧ s.drive.state ≠ .cranking) (hother : s.recFits may (otherActuator a)) :
    (runMotor a s).deploysOnly may := by
  refine State.deploysOnly_setRec hother ⟨?_, ?_, ?_⟩
  · simp only [hdir]
    by_cases hc : s.drive.state = .cranking <;> simp [MotionRec.inFlight, MotionRec.atRest, hc]
  · intro h
    exact (hdep (Option.some.inj (hdir.symm.trans h))).1
  · intro h
    by_cases hc : s.drive.state = .cranking
    · refine ⟨hc, ?_⟩
      cases d with
      | stow => exact hdir
      | deploy => exact absurd hc (hdep rfl).2
    · rw [if_neg hc] at h
      cases h

/-- A record takes the driver: it comes to rest, runs its stow, or waits for the grant of a deploy that it may carry. -/
theorem holdDriver_deploysOnly {last : State → State} {d : Direction}
    (hlast : ∀ t, t.deploysOnly may → (last t).deploysOnly may) (hdir : (s.motionRec a).direction = some d)
    (hdep : d = .deploy → may a) (hother : s.recFits may (otherActuator a)) : (holdDriver a last s).deploysOnly may := by
  unfold holdDriver
  dsimp only
  split
  next hnone => simp [hdir] at hnone
  next e he =>
    obtain rfl : d = e := Option.some.inj (hdir.symm.trans he)
    split
    · exact hlast _ (restRecord_deploysOnly (Or.inl rfl) hother)
    · cases d with
      | stow => exact runMotor_deploysOnly (d := .stow) (by simpa using hdir) nofun (hother.of_rec (by simp) (by simp))
      | deploy =>
        refine State.deploysOnly.request (State.deploysOnly_setRec hother ?_)
        exact MotionRec.fits_of_flight rfl nofun hdir hdep

/-- R112: the waiter keeps its direction as it takes the driver. -/
theorem passDriver_deploysOnly (h : s.deploysOnly may) : (passDriver s).deploysOnly may := by
  unfold passDriver
  split
  next w _ _ =>
    have hs : (s.withMotion { s.motion with holder := some w, waiter := none }).deploysOnly may := h.arbiter
    cases hdir : (s.motionRec w).direction with
    | none => simpa [holdDriver, hdir] using hs
    | some d =>
      exact holdDriver_deploysOnly (fun _ ht => ht) hdir (fun hd => (h w).deploy (hd ▸ hdir)) (hs _)
  next => exact h

theorem endMotion_deploysOnly {act : Activity} {k : FaultKind} {res : MotionResult} (hact : act = .idle ∨ act = .fault)
    (hother : s.recFits may (otherActuator a)) : (endMotion a act k res s).deploysOnly may :=
  passDriver_deploysOnly (restRecord_deploysOnly hact hother)

theorem stopRecord_deploysOnly {res : MotionResult} (h : s.deploysOnly may) : (stopRecord a res s).deploysOnly may := by
  unfold stopRecord
  split
  · exact endMotion_deploysOnly (Or.inl rfl) (h _)
  · exact h

theorem stopBoth_deploysOnly {res : MotionResult} (h : s.deploysOnly may) : (stopBoth res s).deploysOnly may := by
  unfold stopBoth
  split <;> exact stopRecord_deploysOnly (stopRecord_deploysOnly h)

/-- R115: a motion that starts leaves its record at rest again, or in flight in the direction asked for. -/
theorem startMotion_deploysOnly {d : Direction} {q : Requester} (hdep : d = .deploy → may a)
    (hother : s.recFits may (otherActuator a)) : (startMotion a d q s).deploysOnly may := by
  unfold startMotion
  split
  · exact holdDriver_deploysOnly (fun _ => passDriver_deploysOnly) (d := d) (by simp [State.motionRec]) hdep
      (hother.of_rec (by simp [State.motionRec]) (by simp))
  · refine State.deploysOnly.arbiter (State.deploysOnly_setRec (hother.of_rec (by simp) (by simp)) ?_)
    exact MotionRec.fits_of_flight rfl nofun (by simp) hdep

theorem replaceRequester_recs (a : Actuator) (q : Requester) (res : MotionResult) (s : State) :
    (replaceRequester a q res s).motion.recs = s.motion.recs.set a { s.motionRec a with requester := some q } := by
  unfold replaceRequester
  dsimp only
  split <;> simp

@[simp] theorem replaceRequester_motionRec (a : Actuator) (q : Requester) (res : MotionResult) (s : State) :
    (replaceRequester a q res s).motionRec a = { s.motionRec a with requester := some q } := by
  rw [State.motionRec, replaceRequester_recs, PerActuator.get_set]

@[simp] theorem replaceRequester_motionRec_other (a : Actuator) (q : Requester) (res : MotionResult) (s : State) :
    (replaceRequester a q res s).motionRec (otherActuator a) = s.motionRec (otherActuator a) := by
  rw [State.motionRec, replaceRequester_recs, PerActuator.get_set_other, State.motionRec]

/-- R116, R117: a record turned comes to rest, or goes on as `go` has it in the new direction. -/
theorem turnHolder_deploysOnly {d : Direction} {go : State → State} (hother : s.recFits may (otherActuator a))
    (hgo : ∀ t, (t.motionRec a).direction = some d → t.recFits may (otherActuator a) → (go t).deploysOnly may) :
    (turnHolder a d go s).deploysOnly may := by
  unfold turnHolder
  dsimp only
  split
  · exact endMotion_deploysOnly (Or.inl rfl) (hother.of_rec (by simp) (by simp))
  · exact hgo _ (by simp) (hother.of_rec (by simp) (by simp))

theorem reverseMotion_deploysOnly {d : Direction} (hdep : d = .deploy → may a)
    (hother : s.recFits may (otherActuator a)) : (reverseMotion a d s).deploysOnly may := by
  refine turnHolder_deploysOnly hother fun t hdir hot => ?_
  refine State.deploysOnly.request (State.deploysOnly_setRec hot ?_)
  exact MotionRec.fits_of_flight rfl nofun hdir hdep

theorem turnWaiting_deploysOnly (hother : s.recFits may (otherActuator a)) : (turnWaiting a s).deploysOnly may :=
  turnHolder_deploysOnly hother fun t hdir hot =>
    runMotor_deploysOnly (d := .stow) (by simpa using hdir) nofun (hot.of_rec (by simp) (by simp))

end

end Sys2Proof.Machine
end

section
/-! PROOFS. A change of drive state (R126 to R128) leaves no deploy in flight: the drive-away frees one actuator after the
other of its deploy, and so does the interlock. -/

namespace Sys2Proof.Machine

section
variable {may : Actuator → Prop} {a : Actuator} {s : State}

/-! ### A change of drive state -/

theorem otherActuator_ne (a : Actuator) : otherActuator a ≠ a := by
  cases a <;> decide

theorem eq_or_eq_otherActuator (a b : Actuator) : b = a ∨ b = otherActuator a := by
  cases a <;> cases b <;> decide

theorem MotionRec.fits.direction_of_rest {d : DriveState} {p : Prop} {r : MotionRec} (h : r.fits d p)
    (hact : r.activity = .idle ∨ r.activity = .fault) : r.direction = none :=
  Option.not_isSome_iff_eq_none.mp fun hsome => by
    obtain ⟨hidle, hfault⟩ := (MotionRec.inFlight_iff r).mp (h.directed.trans hsome)
    exact hact.elim hidle hfault

theorem MotionRec.fits.deploying_iff {d : DriveState} {p : Prop} {r : MotionRec} (h : r.fits d p) :
    r.deploying = true ↔ r.direction = some .deploy := by
  simp only [deploying, Bool.and_eq_true, beq_iff_eq, and_iff_right_iff_imp]
  intro hd
  rw [h.directed, hd]
  rfl

/-- A record that carries no deploy fits where none is admitted. -/
theorem MotionRec.fits.of_not_deploy {d : DriveState} {p q : Prop} {r : MotionRec} (h : r.fits d p)
    (hd : r.direction ≠ some .deploy) : r.fits d q :=
  ⟨h.directed, fun e => absurd e hd, h.paused⟩

/-- The other record fits where an actuator is no longer admitted a deploy. -/
theorem State.deploysOnly.other_without (h : s.deploysOnly may) (a : Actuator) :
    s.recFits (fun b => may b ∧ b ≠ a) (otherActuator a) :=
  (h _).mono (⟨·, otherActuator_ne a⟩)

/-- R127: a drive-away leaves its record without a deploy. -/
theorem awayRecord_deploysOnly (h : s.deploysOnly may) : (awayRecord a s).deploysOnly fun b => may b ∧ b ≠ a := by
  have hother := h.other_without a
  have hmark : ∀ m : AwayMark, (s.motionRec a).direction ≠ some .deploy →
      (s.setRec a { s.motionRec a with mark := m }).deploysOnly fun b => may b ∧ b ≠ a := fun m hd =>
    State.deploysOnly_setRec hother (((h a).of_not_deploy hd).congr rfl rfl)
  have hturned : (replaceRequester a .auto .interlock (s.setRec a { s.motionRec a with mark := .stowing })).recFits
      (fun b => may b ∧ b ≠ a) (otherActuator a) := hother.of_rec (by simp) (by simp)
  unfold awayRecord
  dsimp only
  split
  next hact =>
    split
    · exact hmark _ (by simp [(h a).direction_of_rest (Or.inl hact)])
    · exact startMotion_deploysOnly nofun (hother.of_rec (by simp) (by simp))
  next hact => exact hmark _ (by simp [(h a).direction_of_rest (Or.inr hact)])
  next hact =>
    split
    · exact State.deploysOnly_setRec hturned
        (MotionRec.fits_of_flight (dir := .stow) (by simp [MotionRec.inFlight_iff, hact]) (by simp [hact]) rfl nofun)
    next hd => exact hmark _ hd
  next => exact turnWaiting_deploysOnly hturned
  next =>
    split
    · exact reverseMotion_deploysOnly nofun hturned
    next hd => exact hmark _ hd
  next =>
    split
    · exact reverseMotion_deploysOnly nofun hturned
    next hd => exact hmark _ hd
  next hact => exact hmark _ (by simp [((h a).paused hact).2])

/-- R128: the stop of a deploy leaves its record without one. -/
theorem interlockStop_deploysOnly (h : s.deploysOnly may) :
    (if (s.motionRec a).deploying then stopRecord a .interlock s else s).deploysOnly fun b => may b ∧ b ≠ a := by
  have hother := h.other_without a
  split
  next hd =>
    have hfly : (s.motionRec a).inFlight = true := by
      simp only [MotionRec.deploying, Bool.and_eq_true] at hd
      exact hd.1
    rw [stopRecord, if_pos hfly]
    exact endMotion_deploysOnly (Or.inl rfl) hother
  next hd =>
    rw [(h a).deploying_iff] at hd
    exact (State.deploysOnly_iff a).mpr ⟨(h a).of_not_deploy hd, hother⟩

/-- Two acts that each free one actuator of its deploy leave none. -/
theorem State.deploysOnly.none_of_both (first : Actuator)
    (h : s.deploysOnly fun b => (may b ∧ b ≠ first) ∧ b ≠ otherActuator first) : s.deploysOnly fun _ => False :=
  h.mono fun b ⟨⟨_, hfirst⟩, hother⟩ => (eq_or_eq_otherActuator first b).elim hfirst hother

theorem driveAway_deploysOnly (h : s.deploysOnly may) : (driveAway s).deploysOnly fun _ => False := by
  have hboth := (awayRecord_deploysOnly (a := otherActuator (if s.motion.waiter = some .step then .step else .awning))
    (awayRecord_deploysOnly (a := if s.motion.waiter = some .step then .step else .awning) h)).none_of_both
  unfold driveAway
  dsimp only
  split
  · exact hboth.of_recs rfl rfl
  · split
    · exact hboth.of_recs rfl rfl
    · exact hboth

theorem interlockDeploys_deploysOnly (h : s.deploysOnly may) : (interlockDeploys s).deploysOnly fun _ => False :=
  (interlockStop_deploysOnly (interlockStop_deploysOnly h)).none_of_both

/-- R126: a record PAUSED in CRANKING moves again whatever the drive state then is. -/
theorem resumeRecord_fits {p : Prop} (d : DriveState) (h : (s.motionRec a).fits .cranking p) :
    ((resumeRecord a s).motionRec a).fits d p := by
  unfold resumeRecord
  dsimp only
  split
  next hact =>
    rw [State.motionRec_setRec]
    exact MotionRec.fits_of_flight rfl nofun (h.paused hact).2 nofun
  next hact => exact ⟨h.directed, h.deploy, fun e => absurd e hact⟩

theorem resumeRecord_motionRec_other (a : Actuator) (s : State) :
    (resumeRecord a s).motionRec (otherActuator a) = s.motionRec (otherActuator a) := by
  unfold resumeRecord
  dsimp only
  split <;> simp

/-- R126: into CRANKING a record that carries no deploy may be PAUSED. -/
theorem pauseRecord_deploysOnly (hc : s.drive.state = .cranking) (h : s.deploysOnly fun _ => False) :
    (pauseRecord a s).deploysOnly fun _ => False := by
  unfold pauseRecord
  dsimp only
  split
  next hact =>
    have hfly : (s.motionRec a).inFlight = true := by simp [MotionRec.inFlight_iff, hact]
    have hstow := MotionRec.stow_of_inFlight (h a).directed hfly (h a).deploy
    exact State.deploysOnly_setRec (h _) ⟨hfly.symm.trans (h a).directed, (h a).deploy, fun _ => ⟨hc, hstow⟩⟩
  · exact h

/-- The records as a change of drive state finds them, resumed where it leaves CRANKING, fit the new drive state. -/
theorem resumed_deploysOnly {old : DriveState} (h : ∀ a, (s.motionRec a).fits old (may a)) :
    (if old = .cranking then resumeRecord .step (resumeRecord .awning s) else s).deploysOnly may := by
  split
  next hc =>
    subst hc
    refine (State.deploysOnly_iff .step).mpr ⟨resumeRecord_fits _ ?_, ?_⟩
    · rw [show Actuator.step = otherActuator .awning from rfl, resumeRecord_motionRec_other]
      exact h _
    · rw [State.recFits, resumeRecord_motionRec_other]
      exact resumeRecord_fits _ (h .awning)
  next hc => exact fun a => ⟨(h a).directed, (h a).deploy, fun hp => absurd ((h a).paused hp).1 hc⟩

theorem isDriveAway_of_parked (ref new : DriveState) (hp : new ≠ .parked) (hu : new ≠ .unknown) :
    isDriveAway ref .parked new = true := by
  cases new <;> simp_all [isDriveAway]

/-- R127: after the drive-away, where there is one, only a change from PARKED to UNKNOWN has deploys left. -/
theorem afterDriveAway_deploysOnly {ref old new : DriveState} (hne : new ≠ old)
    (h : s.deploysOnly fun _ => old = .parked) :
    (if isDriveAway ref old new then driveAway s else s).deploysOnly fun _ => old = .parked ∧ new = .unknown := by
  split
  · exact (driveAway_deploysOnly h).mono fun _ => False.elim
  next hstay =>
    refine h.mono fun _ hold => ⟨hold, ?_⟩
    subst hold
    exact Decidable.byContradiction fun hu => hstay (isDriveAway_of_parked _ _ hne hu)

/-- R128: the interlock stops what a change from PARKED to UNKNOWN has left. -/
theorem afterInterlock_deploysOnly {old new : DriveState} (h : s.deploysOnly fun _ => old = .parked ∧ new = .unknown) :
    (if old = .parked ∧ new = .unknown then interlockDeploys s else s).deploysOnly fun _ => False := by
  split
  · exact interlockDeploys_deploysOnly h
  next hno => exact h.mono fun _ => hno

theorem afterPause_deploysOnly {new : DriveState} (hnew : s.drive.state = new) (h : s.deploysOnly fun _ => False) :
    (if new = .cranking then pauseRecord .step (pauseRecord .awning s) else s).deploysOnly fun _ => False := by
  split
  next hc =>
    have hcranking := hnew.trans hc
    exact pauseRecord_deploysOnly (by simpa using hcranking) (pauseRecord_deploysOnly hcranking h)
  · exact h

/-- R126 to R128: no change of drive state leaves a deploy in flight. -/
theorem motionDriveChange_deploysOnly {old new : DriveState} (hne : new ≠ old) (hnew : s.drive.state = new)
    (h : ∀ a, (s.motionRec a).fits old (old = .parked)) : (motionDriveChange old new s).deploysOnly fun _ => False := by
  have hstopped := afterInterlock_deploysOnly (new := new)
    (afterDriveAway_deploysOnly (ref := s.motion.awayRef) hne (resumed_deploysOnly h))
  have hpaused := afterPause_deploysOnly (new := new) (by (repeat' split) <;> simpa using hnew) hstopped
  unfold motionDriveChange
  dsimp only
  split
  · exact hpaused
  · exact hpaused.arbiter

/-- R30: the drive state takes a value, whatever it was. -/
theorem setDriveState_deploysParked (new : DriveState) (h : s.deploysParked) : (setDriveState new s).deploysParked := by
  rw [State.deploysParked_iff] at h ⊢
  unfold setDriveState
  dsimp only
  split
  · exact h.of_recs rfl rfl
  next hne => exact State.deploysOnly.mono (motionDriveChange_deploysOnly hne rfl h) fun _ => False.elim

end

end Sys2Proof.Machine
end

section
/-! PROOFS. The operations of the motion sequencer and of the drive side keep R125's invariant. -/

namespace Sys2Proof.Machine

section
variable {a : Actuator} {s t : State}

/-! ### The sequencer's operations in the drive state they find -/

theorem State.deploysParked.deploysOnly (h : s.deploysParked) : s.deploysOnly fun _ => s.drive.state = .parked :=
  deploysParked_iff.mp h

/-- An act on the records alone, which leaves the drive state. -/
theorem State.deploysOnly.parked (h : t.deploysOnly fun _ => s.drive.state = .parked)
    (hd : t.drive.state = s.drive.state) : t.deploysParked := by
  rw [deploysParked_iff, hd]
  exact h

/-- An act that leaves records and drive state as they are. -/
theorem State.deploysParked.of_frame (h : s.deploysParked) (hm : t.motion = s.motion) (hd : t.drive = s.drive) :
    t.deploysParked :=
  (h.deploysOnly.of_recs (by rw [hm]) (by rw [hd])).parked (by rw [hd])

/-- An act that leaves the records and, of the drive side, the drive state. -/
theorem State.deploysParked.of_driveState (h : s.deploysParked) (hm : t.motion = s.motion)
    (hd : t.drive.state = s.drive.state) : t.deploysParked :=
  (h.deploysOnly.of_recs (by rw [hm]) hd).parked hd

/-- Switches, timers and marks of a record do not matter. -/
theorem State.deploysParked.setRec {r : MotionRec} (h : s.deploysParked) (hact : r.activity = (s.motionRec a).activity)
    (hdir : r.direction = (s.motionRec a).direction) : (s.setRec a r).deploysParked :=
  (deploysOnly_setRec (h.deploysOnly _) ((h.deploysOnly a).congr hact hdir)).parked (by simp)

theorem restRecord_deploysParked {act : Activity} {k : FaultKind} {res : MotionResult} (h : s.deploysParked)
    (hact : act = .idle ∨ act = .fault) : (restRecord a act k res s).deploysParked :=
  (restRecord_deploysOnly hact (h.deploysOnly _)).parked (by simp)

theorem endMotion_deploysParked {act : Activity} {k : FaultKind} {res : MotionResult} (h : s.deploysParked)
    (hact : act = .idle ∨ act = .fault) : (endMotion a act k res s).deploysParked :=
  (endMotion_deploysOnly hact (h.deploysOnly _)).parked (by simp)

theorem stopRecord_deploysParked {res : MotionResult} (h : s.deploysParked) : (stopRecord a res s).deploysParked :=
  (stopRecord_deploysOnly h.deploysOnly).parked (by simp)

theorem stopBoth_deploysParked {res : MotionResult} (h : s.deploysParked) : (stopBoth res s).deploysParked :=
  (stopBoth_deploysOnly h.deploysOnly).parked (by simp)

/-- A motor that runs for a deploy runs in PARKED, and so not PAUSED. -/
theorem runMotor_deploysParked (h : s.deploysParked) (hfly : (s.motionRec a).inFlight = true) :
    (runMotor a s).deploysParked := by
  have hrec := h.deploysOnly a
  obtain ⟨d, hd⟩ := Option.isSome_iff_exists.mp (hrec.directed.symm.trans hfly)
  refine (runMotor_deploysOnly hd (fun hdep => ?_) (h.deploysOnly _)).parked (by simp)
  have hparked := hrec.deploy (hdep ▸ hd)
  exact ⟨hparked, by simp [hparked]⟩

/-- R116, R117: a MOVE of a motion in flight; a deploy is asked for in PARKED alone. -/
theorem moveInFlight_deploysParked {d : Direction} {q : Requester} (h : s.deploysParked)
    (hdep : d = .deploy → s.drive.state = .parked) : (moveInFlight a d q s).2.deploysParked := by
  have hreplaced : (replaceRequester a q .stopped s).recFits (fun _ => s.drive.state = .parked) (otherActuator a) :=
    (h.deploysOnly _).of_rec (by simp) (by simp)
  unfold moveInFlight
  dsimp only
  split
  · exact h
  · split
    next hact =>
      refine State.deploysOnly.parked (State.deploysOnly_setRec hreplaced ?_) (by simp)
      exact MotionRec.fits_of_flight (by simp [MotionRec.inFlight_iff, hact]) (by simp [hact]) rfl hdep
    next => exact (turnWaiting_deploysOnly hreplaced).parked (by simp)
    next => exact (reverseMotion_deploysOnly hdep hreplaced).parked (by simp)
    next => exact (reverseMotion_deploysOnly hdep hreplaced).parked (by simp)
    all_goals exact h

/-- R114: outside PARKED a deploy is refused, whoever asks for it. -/
theorem moveTaken_deploysParked {d : Direction} {remote : Bool} {q : Requester} (h : s.deploysParked) :
    (moveTaken a d remote q s).2.deploysParked := by
  unfold moveTaken
  dsimp only
  split
  · exact h
  split
  · exact h
  split
  · exact h
  next hlock =>
    have hdep : d = .deploy → s.drive.state = .parked := by simpa using hlock
    split
    · split
      · exact h
      · exact (startMotion_deploysOnly hdep (h.deploysOnly _)).parked (by simp)
    · exact moveInFlight_deploysParked h hdep

theorem moveRequest_deploysParked {act dir : Nat} {remote : Bool} {q : Requester} (h : s.deploysParked) :
    (moveRequest act dir remote q s).2.deploysParked := by
  unfold moveRequest
  split
  · exact moveTaken_deploysParked h
  · exact h

theorem stopRequest_deploysParked {act : Nat} (h : s.deploysParked) : (stopRequest act s).2.deploysParked := by
  unfold stopRequest
  split
  · exact stopRecord_deploysParked h
  · exact stopRecord_deploysParked h
  · exact stopBoth_deploysParked h
  · exact h

/-- R123: a record leaves FAULT for IDLE, at rest in both. -/
theorem clearFaultRequest_deploysParked {act : Nat} (h : s.deploysParked) : (clearFaultRequest act s).2.deploysParked := by
  unfold clearFaultRequest
  split
  · exact h
  next b _ =>
    dsimp only
    split
    next hfault =>
      split
      · exact h
      · have hrest := (h.deploysOnly b).direction_of_rest (Or.inr hfault)
        exact State.deploysOnly.parked
          (State.deploysOnly_setRec (h.deploysOnly _) (MotionRec.fits_of_rest (Or.inl rfl) hrest)) (by simp)
    · exact h

theorem endSwitchChange_deploysParked {w : EndSwitch} {active : Bool} (h : s.deploysParked) :
    (endSwitchChange a w active s).deploysParked := by
  unfold endSwitchChange
  extract_lets r0 r s1 changed
  have hs1 : s1.deploysParked := h.setRec (by cases w <;> rfl) (by cases w <;> rfl)
  split
  · exact hs1
  · split
    · exact restRecord_deploysParked hs1 (Or.inr rfl)
    · exact hs1
  · split
    · exact endMotion_deploysParked hs1 (Or.inr rfl)
    · split
      · exact endMotion_deploysParked hs1 (Or.inl rfl)
      · exact hs1

theorem reversalReached_deploysParked (h : s.deploysParked) : (reversalReached a s).deploysParked := by
  unfold reversalReached
  dsimp only
  split
  next hrev =>
    have hfly : (s.motionRec a).inFlight = true := by simp [MotionRec.inFlight_iff, hrev.1]
    split
    · exact runMotor_deploysParked h hfly
    · have hrec := h.deploysOnly a
      exact State.deploysOnly.parked (State.deploysOnly_setRec (h.deploysOnly _)
        ⟨hfly.symm.trans hrec.directed, hrec.deploy, nofun⟩) (by simp)
  · exact h

theorem grantWaitReached_deploysParked (h : s.deploysParked) : (grantWaitReached a s).deploysParked := by
  unfold grantWaitReached
  dsimp only
  split
  · exact endMotion_deploysParked h (Or.inl rfl)
  · exact h

theorem stallReached_deploysParked (h : s.deploysParked) : (stallReached a s).deploysParked := by
  unfold stallReached
  split
  · exact endMotion_deploysParked h (Or.inr rfl)
  · exact h

theorem travelReached_deploysParked (h : s.deploysParked) : (travelReached a s).deploysParked := by
  unfold travelReached
  dsimp only
  split
  · exact endMotion_deploysParked h (Or.inr rfl)
  · exact h

theorem surgePast_deploysParked (h : s.deploysParked) : (surgePast a s).deploysParked := by
  unfold surgePast
  dsimp only
  split
  · exact h.setRec rfl rfl
  · exact h

theorem motionSample_deploysParked {was : Motion} {x : Sample} (h : s.deploysParked) :
    (motionSample was x s).deploysParked := by
  unfold motionSample
  split
  · split
    · unfold stallSample
      dsimp only
      split
      · split
        · exact stallReached_deploysParked (h.setRec rfl rfl)
        · exact h.setRec rfl rfl
      · exact h
    · exact h
  · exact h

/-- R118, R124: a grant runs the motor of a record in flight, a loss of it stops one. -/
theorem motorGrant_deploysParked {c : Cause} (h : s.deploysParked) : (motorGrant c s).deploysParked := by
  unfold motorGrant
  split
  · exact h
  next a _ =>
    dsimp only
    split
    · split
      · split
        next hact =>
          exact runMotor_deploysParked (h.setRec rfl rfl) (by simp [MotionRec.inFlight_iff, hact])
        · exact h.setRec rfl rfl
        · exact h
      · exact h
    · split
      · exact stopRecord_deploysParked h
      · exact h
    · split
      · exact stopRecord_deploysParked h
      · exact h
    · exact h

/-! ### The drive side -/

@[simp] theorem DriveSide.judge_state (d : DriveSide) : d.judge.state = d.state := rfl

theorem driveReport_deploysParked {ign eng crk hb speed : Nat} (h : s.deploysParked) :
    (driveReport ign eng crk hb speed s).2.deploysParked := by
  unfold driveReport
  split
  · exact h.of_frame (by simp) (by simp)
  · dsimp only
    generalize hd : s.drive.store (ign == 1) (eng == 1) (crk == 1) (hb == 1) speed = d
    have hset : (setDriveState (derive d) (s.withDrive d)).deploysParked :=
      setDriveState_deploysParked _ (h.of_driveState rfl (by rw [← hd]; rfl))
    split <;> exact hset.of_frame (by simp) (by simp)

theorem crankReached_deploysParked (h : s.deploysParked) : (crankReached s).deploysParked := by
  unfold crankReached
  split
  · exact setDriveState_deploysParked _ (h.of_driveState rfl rfl)
  · exact h

theorem staleReached_deploysParked (h : s.deploysParked) : (staleReached s).deploysParked := by
  unfold staleReached
  split
  · exact h
  · exact setDriveState_deploysParked _ h

theorem shoreChange_deploysParked {active : Bool} (h : s.deploysParked) : (shoreChange active s).deploysParked :=
  h.of_driveState (by simp) (by simp [shoreChange])

@[simp] theorem setInhibit_driveState (on : Bool) (c : InhibitCause) (s : State) :
    (setInhibit on c s).drive.state = s.drive.state := by
  unfold setInhibit
  dsimp only
  split <;> rfl

@[simp] theorem judgeInhibit_driveState (p : Nat) (r : Reading) (s : State) :
    (judgeInhibit p r s).drive.state = s.drive.state := by
  unfold judgeInhibit
  dsimp only
  (repeat' split) <;> simp only [setInhibit_driveState, State.withDrive_drive]

@[simp] theorem inhibitSample_driveState (p : Nat) (r : Reading) (s : State) :
    (inhibitSample p r s).drive.state = s.drive.state := by
  unfold inhibitSample
  cases s.settings.battery.chem <;> dsimp only <;> split <;> simp

@[simp] theorem inhibitReached_driveState (s : State) : (inhibitReached s).drive.state = s.drive.state := by
  unfold inhibitReached
  dsimp only
  split <;> simp

@[simp] theorem driveSample_driveState (x : Sample) (s : State) : (driveSample x s).drive.state = s.drive.state := by
  simp [driveSample, DriveSide.sample]

end

end Sys2Proof.Machine
end

section
/-! PROOFS. R125's invariant over a whole event: what it hands on, what the ports deliver, supply and RESTART; and over the
step. -/

namespace Sys2Proof.Machine

section
variable {p : PortId} {s t : State}

/-! ### What an event hands on -/

theorem presentStep_deploysParked {caller : PortId} {k : RStep} (h : s.deploysParked) :
    (presentStep caller k s).deploysParked := by
  cases k with
  | move a d =>
    exact (moveTaken_deploysParked (a := a) (d := d) (remote := caller == .remote) (q := .routine) h).of_frame
      (by simp [presentStep]) (by simp [presentStep])
  | requireParked =>
    unfold presentStep
    dsimp only
    split <;> exact h.of_frame (by simp) (by simp)
  | _ => exact h.of_frame (by simp [presentStep]) (by simp [presentStep])

theorem presentDue_deploysParked (h : s.deploysParked) : (presentDue s).deploysParked := by
  have hs : (s.withRunner { s.runner with due := false }).deploysParked := h.of_frame rfl rfl
  unfold presentDue
  dsimp only
  split
  · exact hs
  · split
    · exact hs.of_frame (by simp) (by simp)
    · exact presentStep_deploysParked hs

theorem handGrant_deploysParked {g : GrantChange} (h : s.deploysParked) : (handGrant g s).deploysParked := by
  unfold handGrant
  split
  · exact motorGrant_deploysParked h
  all_goals exact h.of_frame (by simp) (by simp)

theorem judgeSleep_deploysParked (h : s.deploysParked) : (judgeSleep s).deploysParked :=
  h.of_frame (by simp) (by simp)

theorem handOn_deploysParked (n : Nat) : ∀ {s : State}, s.deploysParked → (handOn n s).deploysParked := by
  induction n with
  | zero => exact id
  | succ n ih =>
    intro s h
    unfold handOn
    split
    · exact ih (judgeSleep_deploysParked (handGrant_deploysParked (h.of_frame rfl rfl)))
    · split
      · exact ih (judgeSleep_deploysParked (h.of_frame (by simp) (by simp)))
      · split
        · exact ih (judgeSleep_deploysParked (presentDue_deploysParked h))
        · exact h

theorem settle_deploysParked (h : s.deploysParked) : (settle s).deploysParked :=
  handOn_deploysParked _ (judgeSleep_deploysParked h)

/-! ### The ports' requests -/

/-- A reset of the VEHICLE port is a change to UNKNOWN (R29). -/
theorem portReset_deploysParked {keep : Bool} (h : s.deploysParked) : (portReset p keep s).deploysParked := by
  have hport : (s.setPort p ((s.ports.get p).detached keep)).deploysParked := h.of_frame rfl rfl
  unfold portReset
  dsimp only
  split
  · exact (setDriveState_deploysParked .unknown hport).of_frame (by simp) (by simp)
  · exact hport.of_frame (by simp) (by simp)

theorem attachRequest_deploysParked {body : List Byte} (h : s.deploysParked) :
    (attachRequest p body s).2.2.deploysParked := by
  unfold attachRequest
  split
  · split
    · exact h
    · dsimp only
      split
      · exact (portReset_deploysParked h).of_frame rfl rfl
      · exact h.of_frame rfl rfl
  · exact h

/-- R158: the step in flight may be a motion, which is stopped. -/
theorem abortStep_deploysParked {ph : RunPhase} (h : s.deploysParked) : (abortStep ph s).deploysParked := by
  cases ph with
  | onMotion a => exact (stopRecord_deploysParked h).of_frame rfl rfl
  | presenting => exact h
  | onTimer => exact h

theorem cancelRequest_deploysParked (h : s.deploysParked) : (cancelRequest p s).2.deploysParked := by
  unfold cancelRequest
  split
  · exact h
  next r _ =>
    split
    · exact (abortStep_deploysParked (ph := r.phase) h).of_frame (by simp) (by simp)
    · exact h

theorem deliver_deploysParked {k : ReqKind} {body : List Byte} (h : s.deploysParked) :
    (deliver p k body s).state.deploysParked := by
  cases k with
  | attach => exact attachRequest_deploysParked h
  | detach => exact portReset_deploysParked h
  | drive => exact driveReport_deploysParked h
  | move => exact moveRequest_deploysParked h
  | stopMotion => exact stopRequest_deploysParked h
  | clearFault => exact clearFaultRequest_deploysParked h
  | cancel => exact cancelRequest_deploysParked h
  | save =>
    simp only [deliver, saveRequest]
    split <;> exact h.of_frame rfl rfl
  | _ => exact h.of_frame (by simp [deliver, Delivery.state, plain]) (by simp [deliver, Delivery.state, plain])

theorem serve_deploysParked (h : s.deploysParked) : (serve p s).deploysParked := by
  unfold serve
  split
  · exact h
  next f _ =>
    unfold serveFrame
    split
    · exact h.of_frame (by simp) (by simp)
    next k _ =>
      have hdelivered : (deliver p k f.body
          (s.setPort p { s.ports.get p with slotA := some { frame := f, delivered := true } })).state.deploysParked :=
        deliver_deploysParked (h.of_frame rfl rfl)
      dsimp only
      split
      next s1 heq =>
        have hs1 : s1.deploysParked := by rwa [heq] at hdelivered
        exact (settle_deploysParked hs1).of_frame (by simp) (by simp)
      next s1 heq =>
        have hs1 : s1.deploysParked := by rwa [heq] at hdelivered
        exact settle_deploysParked hs1

theorem linkRound_deploysParked (h : s.deploysParked) : (linkRound s).deploysParked :=
  (serve_deploysParked (p := .vehicle) (serve_deploysParked (p := .remote) (serve_deploysParked (p := .panel) h))).of_frame
    (by simp [linkRound]) (by simp [linkRound])

theorem finish_deploysParked (h : s.deploysParked) : (finish s).deploysParked :=
  judgeSleep_deploysParked
    (linkRound_deploysParked (linkRound_deploysParked (linkRound_deploysParked (settle_deploysParked h))))

/-- An event of the part, whatever act begins it. -/
theorem event_deploysParked {f : State → State} (h : s.deploysParked) (hf : (f s).deploysParked)
    (he : event f s = .next t) : t.deploysParked := by
  obtain rfl := Host.Outcome.next.inj he
  split
  · exact finish_deploysParked hf
  · exact h

/-! ### What arrives on a line -/

theorem takeRequest_deploysParked {f : Frame} (h : s.deploysParked) : (takeRequest p f s).deploysParked := by
  unfold takeRequest answerDetached
  dsimp only
  split
  · split
    · exact h.of_frame (by simp) (by simp)
    · split
      · exact (attachRequest_deploysParked (p := p) (body := f.body) h).of_frame (by simp) (by simp)
      · exact h.of_frame (by simp) (by simp)
  · split
    · exact h.of_frame rfl rfl
    · split
      · exact h.of_frame rfl rfl
      · exact h.of_frame (by simp) (by simp)

theorem frameTaken_deploysParked {f : Frame} (h : s.deploysParked) : (frameTaken p f s).deploysParked := by
  have hreported : (reportArrival p f s).deploysParked := h.of_frame (by simp) (by simp)
  unfold frameTaken
  dsimp only
  split
  · exact hreported.of_frame (by simp) (by simp)
  · exact takeRequest_deploysParked hreported

theorem frameArrives_deploysParked {f : Frame} (h : s.deploysParked) : (frameArrives p f s).deploysParked := by
  unfold frameArrives
  dsimp only
  split
  · exact h.of_frame (by simp) (by simp)
  · exact frameTaken_deploysParked (h.of_frame rfl rfl)

theorem frameComplete_deploysParked {bytes : List Byte} (h : s.deploysParked) :
    (frameComplete p bytes s).deploysParked := by
  unfold frameComplete
  dsimp only
  split
  · split
    · exact frameTaken_deploysParked h
    · exact h
  · exact h.of_frame (by simp) (by simp)

theorem frameByte_deploysParked {bytes : List Byte} {zeros : Nat} {data : Byte} (h : s.deploysParked) :
    (frameByte p bytes zeros data s).deploysParked := by
  unfold frameByte
  dsimp only
  generalize (if data = 0 then zeros + 1 else 0) = run
  split
  · exact h.of_frame (by simp) (by simp)
  split
  · exact h.of_frame (by simp) (by simp)
  split
  · exact frameComplete_deploysParked (h.of_frame (by simp) (by simp))
  · exact h.of_frame (by simp) (by simp)

theorem assemble_deploysParked {data : Byte} {error : Bool} (h : s.deploysParked) :
    (assemble p data error s).deploysParked := by
  have hasm : ∀ x, (setAsm p x s).deploysParked := fun x => h.of_frame (by simp) (by simp)
  unfold assemble
  split
  · split
    · exact hasm _
    · exact h
  · split
    · exact hasm _
    split
    · exact hasm _
    split
    · exact h
    · exact hasm _
  · split
    · exact (hasm .hunting).of_frame (by simp) (by simp)
    · exact frameByte_deploysParked h

theorem characterTaken_deploysParked {data : Byte} {parity stop : Bool} (h : s.deploysParked) :
    (characterTaken p data parity stop s).deploysParked := by
  unfold characterTaken
  dsimp only
  split
  · exact assemble_deploysParked (h.of_frame rfl rfl)
  · exact h
  · exact h

/-! ### Supply and RESTART -/

/-- R113: records at rest, as every reset leaves them. -/
theorem deploysParked_of_restart (s : State) (h : ∀ a, ∃ r k, s.motionRec a = MotionRec.restart r k) :
    s.deploysParked := by
  have hfits : s.deploysOnly fun _ => False := by
    intro a
    obtain ⟨r, k, hr⟩ := h a
    rw [State.recFits, hr]
    refine MotionRec.fits_of_rest ?_ rfl
    by_cases hc : r.conflict = true <;> simp [MotionRec.restart, hc]
  exact State.deploysOnly.parked (s := s) (hfits.mono fun _ => False.elim) rfl

theorem raiseConflicts_deploysParked (h : s.deploysParked) : (raiseConflicts s).deploysParked := by
  have htell : ∀ (a : Actuator) (u : State), u.deploysParked →
      (if (u.motionRec a).activity = .fault then raise .motion .motion (actuatorIndex a) u else u).deploysParked := by
    intro a u hu
    split
    · exact hu.of_frame rfl rfl
    · exact hu
  exact htell .step _ (htell .awning s h)

theorem powerOn_deploysParked (store : Store) (lines : Lines) (waiting : List Instr) :
    (powerOn store lines waiting).deploysParked := by
  have hpower : (atPower store lines waiting).deploysParked :=
    deploysParked_of_restart _ fun a => by cases a <;> exact ⟨_, _, rfl⟩
  exact raiseConflicts_deploysParked (hpower.of_frame (by simp) (by simp))

theorem askAgain_deploysParked (h : s.deploysParked) : (askAgain s).deploysParked := by
  unfold askAgain
  extract_lets s1 s2
  have h1 : s1.deploysParked := by
    unfold s1
    split <;> exact h.of_frame (by simp) (by simp)
  have h2 : s2.deploysParked := by
    unfold s2
    split
    · exact h1.of_frame (by simp) (by simp)
    · exact h1
  exact h2.of_frame (by simp) (by simp)

theorem restartTaken_deploysParked (s : State) : (restartTaken s).deploysParked := by
  have hblocks : ∀ u : State, (blocksRestart u).deploysParked := fun u =>
    deploysParked_of_restart _ fun a => by cases a <;> exact ⟨_, _, rfl⟩
  exact raiseConflicts_deploysParked (askAgain_deploysParked (hblocks _))

theorem restartEffect_deploysParked (h : s.deploysParked) : (restartEffect s).deploysParked := by
  unfold restartEffect
  split
  · exact restartTaken_deploysParked s
  · exact h

theorem breakTaken_deploysParked (h : s.deploysParked) : (breakTaken p s).deploysParked :=
  portReset_deploysParked (h.of_frame rfl rfl)

theorem breakEffect_deploysParked (h : s.deploysParked) : (breakEffect p s).deploysParked := by
  unfold breakEffect
  dsimp only
  split
  · exact (restartEffect_deploysParked (breakTaken_deploysParked h)).of_frame rfl rfl
  · exact breakTaken_deploysParked h

theorem breakLine_deploysParked (h : s.deploysParked) : (breakLine p s).deploysParked := by
  unfold breakLine
  split
  · exact h
  · exact breakEffect_deploysParked h
  · exact breakEffect_deploysParked h

theorem frameDone_deploysParked (h : s.deploysParked) : (frameDone p s).deploysParked := by
  unfold frameDone
  dsimp only
  split
  · exact h
  · split
    · exact restartEffect_deploysParked (h.of_frame rfl rfl)
    · exact h.of_frame rfl rfl

theorem saveComplete_deploysParked (h : s.deploysParked) : (saveComplete s).deploysParked := by
  have hanswer : ∀ (q : PortId) {u : State}, u.deploysParked → (answerSave q u).deploysParked := by
    intro q u hu
    unfold answerSave
    split
    · exact hu
    · split
      · exact hu.of_frame (by simp) (by simp)
      · exact hu
  unfold saveComplete
  split
  · exact h
  · exact hanswer _ (hanswer _ (hanswer _ (h.of_frame rfl rfl)))

/-! ### Samples, boundaries and time -/

theorem sampleTaken_deploysParked {x : Sample} (h : s.deploysParked) : (sampleTaken x s).deploysParked := by
  unfold sampleTaken
  extract_lets s1 s2 s3 s4
  have hsurge : (surgeSample s).deploysParked := surgePast_deploysParked (surgePast_deploysParked h)
  have h1 : s1.deploysParked := settle_deploysParked (hsurge.of_driveState (by simp) (by simp))
  have h2 : s2.deploysParked := settle_deploysParked (h1.of_frame (by simp) (by simp))
  have h3 : s3.deploysParked := motionSample_deploysParked h2
  have h4 : s4.deploysParked := by
    unfold s4
    split
    · exact h3.of_frame (by simp) (by simp)
    · exact h3
  exact h4.of_frame rfl rfl

theorem boundaryTaken_deploysParked (h : s.deploysParked) : (boundaryTaken s).deploysParked := by
  unfold boundaryTaken
  split
  · exact h
  · exact (settle_deploysParked (s := frameBegin s) (h.of_frame (by simp) (by simp))).of_frame (by simp) (by simp)

/-- Time moves timers alone. -/
theorem tick_deploysParked (h : s.deploysParked) : (tick s).deploysParked := by
  unfold tick
  split
  · have hrecs : (tickTimers s).deploysOnly fun _ => s.drive.state = .parked := by
      intro a
      cases a with
      | awning => exact (h.deploysOnly .awning).congr rfl rfl
      | step => exact (h.deploysOnly .step).congr rfl rfl
    exact State.deploysOnly.parked (s := s) (hrecs.of_recs rfl rfl) rfl
  · exact h

/-! ### The obligation -/

theorem requestEvent_deploysParked {k : ReqKind} {tag : Byte} {body : List Byte} (h : s.deploysParked)
    (he : requestEvent p k tag body s = .next t) : t.deploysParked :=
  event_deploysParked h (frameArrives_deploysParked h) he

theorem execPowerOn_deploysParked {lines : Lines} (he : execPowerOn lines s = .next t) : t.deploysParked := by
  obtain rfl := Host.Outcome.next.inj he
  exact finish_deploysParked (powerOn_deploysParked _ _ _)

theorem execSupplyLoss_deploysParked (h : s.deploysParked) (he : execSupplyLoss s = .next t) : t.deploysParked := by
  obtain rfl := Host.Outcome.next.inj he
  split
  · exact h.of_frame rfl rfl
  · exact h

/-- Every command keeps the records as R125 has them. -/
theorem exec_deploysParked {c : Instr} (h : s.deploysParked) (he : exec c s = .next t) : t.deploysParked := by
  cases c with
  | powerOn => exact execPowerOn_deploysParked he
  | supplyLoss => exact execSupplyLoss_deploysParked h he
  | sampleEvent => exact event_deploysParked h (sampleTaken_deploysParked h) he
  | crankLong => exact event_deploysParked h (crankReached_deploysParked h) he
  | reportStaleness => exact event_deploysParked h (staleReached_deploysParked h) he
  | inhibitNoSensor => exact event_deploysParked h (h.of_driveState (by simp) (by simp)) he
  | shorePresentChange => exact event_deploysParked h (shoreChange_deploysParked h) he
  | endSwitchChange => exact event_deploysParked h (endSwitchChange_deploysParked h) he
  | reversalEnd => exact event_deploysParked h (reversalReached_deploysParked h) he
  | grantWaitExpiry => exact event_deploysParked h (grantWaitReached_deploysParked h) he
  | stall => exact event_deploysParked h (stallReached_deploysParked h) he
  | travelTime => exact event_deploysParked h (travelReached_deploysParked h) he
  | frameBoundary => exact event_deploysParked h (boundaryTaken_deploysParked h) he
  | characterReceived => exact event_deploysParked h (characterTaken_deploysParked h) he
  | lineBreak => exact event_deploysParked h (breakLine_deploysParked h) he
  | frameArrival => exact event_deploysParked h (frameArrives_deploysParked h) he
  | frameSent => exact event_deploysParked h (frameDone_deploysParked h) he
  | restartEffect => exact event_deploysParked h (restartEffect_deploysParked h) he
  | saveCompletion => exact event_deploysParked h (saveComplete_deploysParked h) he
  | restCorrection | fullChargeSync | temperatureAbsenceLimit | lvdEntry | lvdExit | scanStart | scanCompletion | flowPulse
  | pressureSwitchChange | dryLock | glowEnd | failedStart | flameOut | purgeEnd | cabinSensorLost | waterHoldExpiry
  | waitStepExpiry | startBitWake | receiveLineHigh | parkedSleepEntry =>
    exact event_deploysParked h (h.of_frame (by simp) (by simp)) he
  | drive | loadSet | pump | heat | clearLockout | openDrain | closeDrain | move | stopMotion | clearFault | scene | levels
  | call | withdraw | cancel | attach | detach | restart | read | write | writeBattery | writeBudget | writeLoad | writeTank
  | writeWater | writeHeater | writeMotion | writeChannel | writeScene | writeRoutine | save =>
    exact requestEvent_deploysParked h he

end

/-- Settles O10: a step is a command's event or a tick, and each keeps the records as R125 has them. -/
theorem noDeployOutsideParked : Obligations.NoDeployOutsideParked := by
  unfold Obligations.NoDeployOutsideParked
  intro s t h hstep
  unfold step at hstep
  split at hstep
  next c rest _ =>
    have hrest : (s.withPending rest).deploysParked := h.of_frame rfl rfl
    exact exec_deploysParked hrest hstep
  next =>
    obtain rfl := Host.Outcome.next.inj hstep
    exact tick_deploysParked h

end Sys2Proof.Machine
end

section
/-! PROOFS. A recalled fade (R135, R137): each frame boundary takes a channel's step off its distance from the target, and a
recall's step is large enough for the boundaries that R135 names. -/

namespace Sys2Proof.Machine

/-! ### The step that a recall sets -/

/-- Rounding up: so many parts of `b` cover `a`. -/
theorem le_mul_ceilDiv {b : Nat} (a : Nat) (hb : 0 < b) : a ≤ b * ceilDiv a b := by
  have hlt : a + (b - 1) < b * ceilDiv a b + b := Nat.lt_mul_div_succ _ hb
  omega

theorem fadeStep_zero (target present : Nat) : fadeStep 0 target present = 255 := rfl

theorem recallScene_step {c : SceneSettings} {scope : Scope} {l : Light} {i : Fin 12}
    (h : inScope l.channels[i] scope = true) :
    (recallScene c scope l).channels[i].step = fadeStep c.fade c.levels[i] l.channels[i].present := by
  rw [recallScene, vtab_get, if_pos h]

/-! ### The distance from the target -/

/-- A channel's distance from its target. -/
def Channel.distance (c : Channel) : Nat := max c.target c.present - min c.target c.present

theorem Channel.fadeStep_of_pos {fade : Nat} (hf : 0 < fade) (c : Channel) :
    fadeStep fade c.target c.present = max 1 (ceilDiv c.distance (fade * 10)) :=
  if_neg (Nat.ne_of_gt hf)

theorem Channel.distance_eq_zero_iff (c : Channel) : c.distance = 0 ↔ c.present = c.target := by
  unfold distance
  omega

@[simp] theorem Channel.move_target (c : Channel) : c.move.target = c.target := by
  unfold move
  split <;> rfl

@[simp] theorem Channel.move_step (c : Channel) : c.move.step = c.step := by
  unfold move
  split <;> rfl

/-- A boundary takes the step off the distance and never passes the target, from either side. -/
@[simp] theorem Channel.move_distance (c : Channel) : c.move.distance = c.distance - c.step := by
  unfold move
  split
  all_goals
    simp only [distance]
    omega

/-- What `k` boundaries leave of a channel's target, step and distance. -/
theorem Channel.repeat_move (c : Channel) (k : Nat) :
    (Nat.repeat move k c).target = c.target ∧ (Nat.repeat move k c).step = c.step
      ∧ (Nat.repeat move k c).distance = c.distance - k * c.step := by
  induction k with
  | zero => simp [Nat.repeat]
  | succ k ih =>
    obtain ⟨htarget, hstep, hdistance⟩ := ih
    simp [Nat.repeat, htarget, hstep, hdistance, Nat.succ_mul, Nat.sub_sub]

/-- A channel stands on its target once the boundaries' steps cover its distance. -/
theorem Channel.repeat_move_present {c : Channel} {k : Nat} (h : c.distance ≤ k * c.step) :
    (Nat.repeat move k c).present = c.target := by
  obtain ⟨htarget, -, hdistance⟩ := c.repeat_move k
  rw [← htarget, ← distance_eq_zero_iff, hdistance]
  exact Nat.sub_eq_zero_of_le h

/-! ### The boundaries a fade takes -/

/-- The step of a fade time above 0 covers the distance in the fade's boundaries, as it is rounded up, and in as many as
the distance, as it is at least 1. -/
theorem Channel.distance_le_mul_fadeStep {c : Channel} {fade k : Nat} (hf : 0 < fade)
    (hk : fade * 10 ≤ k ∨ c.distance ≤ k) : c.distance ≤ k * fadeStep fade c.target c.present := by
  rw [Channel.fadeStep_of_pos hf]
  rcases hk with hfade | hdistance
  · calc c.distance
      _ ≤ fade * 10 * ceilDiv c.distance (fade * 10) := le_mul_ceilDiv _ (by omega)
      _ ≤ k * max 1 (ceilDiv c.distance (fade * 10)) := Nat.mul_le_mul hfade (Nat.le_max_right _ _)
  · calc c.distance
      _ ≤ k * 1 := by omega
      _ ≤ k * max 1 (ceilDiv c.distance (fade * 10)) := Nat.mul_le_mul_left k (Nat.le_max_left _ _)

/-- Settles O48: the distance falls by the step at each boundary, and the recall's step times the boundaries covers it. -/
theorem fadeReachesTargetInTime : Obligations.FadeReachesTargetInTime := by
  unfold Obligations.FadeReachesTargetInTime
  refine ⟨fun c scope l i hscope => recallScene_step hscope, fun fade c hpresent htarget hstep => ⟨?_, ?_⟩⟩
  · rintro rfl
    rw [fadeStep_zero] at hstep
    have hdistance : c.distance ≤ 1 * c.step := by
      unfold Channel.distance
      omega
    exact Channel.repeat_move_present hdistance
  · intro hf k hk
    exact Channel.repeat_move_present (hstep ▸ Channel.distance_le_mul_fadeStep hf hk)

end Sys2Proof.Machine
end

section
/-! PROOFS. A WRITE at an open port (sections 10.3 and 10.4): its body read back (R166), the directory's verdicts in order
(R179), the owners' judgement of the values that R186 lists (R180), and the event that answers it. -/

namespace Sys2Proof.Machine

/-! ### The body of a WRITE -/

theorem classOf_code (c : RecClass) : classOf (byte c.code).toNat = some c := by cases c <;> rfl

/-- A sixteen-bit field is the number its two bytes stand for. -/
theorem ofNat_halfBytes (m : Half) :
    BitVec.ofNat 16 ((byte (m.toNat / 256)).toNat * 256 + (byte m.toNat).toNat) = m := by
  apply BitVec.eq_of_toNat_eq
  simp only [byte, BitVec.toNat_ofNat]
  omega

theorem length_writeBody (c : RecClass) (index : Byte) (mask : Half) (values : List Byte) :
    (writeBody c index mask values).length = values.length + 4 := by
  simp [writeBody, halfBytes, be16]

theorem writeRequest_writeBody (c : RecClass) (index : Byte) (mask : Half) (values : List Byte) (t : State) :
    writeRequest (writeBody c index mask values) t = writeRecord c index.toNat mask values t := by
  simp only [writeBody, halfBytes, be16, List.cons_append, List.nil_append, writeRequest, classOf_code, ofNat_halfBytes]

theorem lenFits_writeBody (c : RecClass) (index : Byte) (mask : Half) (values : List Byte) :
    ReqKind.write.lenFits (writeBody c index mask values).length = true := by
  simp [ReqKind.lenFits, length_writeBody]

theorem length_writeBody_le (c : RecClass) (index : Byte) (mask : Half) {values : List Byte}
    (h : values.length ≤ 44) : (writeBody c index mask values).length ≤ Config.maxBody := by
  rw [length_writeBody]
  exact Nat.add_le_add_right h 4

/-! ### The directory's verdicts (R179) -/

section
variable {c : RecClass} {i : Nat} {mask : Half} {bytes : List Byte} {v : Values} {t : State}

theorem writeRecord_of_noField (hfield : maskExists mask (fieldForms c i).length = false) :
    writeRecord c i mask bytes t = (.range, t) := by
  simp [writeRecord, hfield]

theorem writeRecord_of_readOnly (hi : i < c.size) (hfields : maskExists mask (fieldForms c i).length = true)
    (hdeal : dealValues mask 0 (fieldForms c i) bytes = some v) (hro : masksReadOnly mask (fieldForms c i) = true) :
    writeRecord c i mask bytes t = (.readOnly, t) := by
  simp [writeRecord, Nat.not_le.mpr hi, hfields, hdeal, hro]

/-- A WRITE that the directory hands to the record's owner with the values `v`: the record and the masked fields exist, the
bytes fit them, and at least one field is masked, none of them read-only. -/
abbrev reachesOwner (c : RecClass) (i : Nat) (mask : Half) (bytes : List Byte) (v : Values) : Prop :=
  i < c.size ∧ maskExists mask (fieldForms c i).length = true ∧ dealValues mask 0 (fieldForms c i) bytes = some v
    ∧ masksReadOnly mask (fieldForms c i) = false ∧ mask ≠ 0#16

theorem writeRecord_of_reachesOwner (h : reachesOwner c i mask bytes v) (hsaving : t.saving = none) :
    writeRecord c i mask bytes t = ownerWrite c i v t := by
  obtain ⟨hi, hfields, hdeal, hro, hmask⟩ := h
  simp [writeRecord, Nat.not_le.mpr hi, hfields, hdeal, hro, hmask, hsaving]

@[simp] theorem masked_zero (k : Nat) : masked 0#16 k = false := BitVec.getLsbD_zero

theorem dealValues_zero (k : Nat) (forms : List FieldForm) :
    dealValues 0#16 k forms [] = some (forms.map fun _ => none) := by
  induction forms generalizing k with
  | nil => rfl
  | cons form rest ih =>
    simp only [dealValues, masked_zero, Bool.and_false, Bool.false_eq_true, if_false, ih, Option.map_some, List.map_cons]

/-- A mask of no field is answered DONE by every record that exists. -/
theorem writeRecord_zero (hi : i < c.size) : writeRecord c i 0#16 [] t = (.done, t) := by
  have hfields : maskExists 0#16 (fieldForms c i).length = true := by simp [maskExists]
  have hwritable : masksReadOnly 0#16 (fieldForms c i) = false := by simp [masksReadOnly]
  simp [writeRecord, Nat.not_le.mpr hi, hfields, dealValues_zero, hwritable]

end

/-! ### The owners (R180) -/

section
variable {v : Values} {t : State}

/-- R89: a setpoint written without the frost guard setting is taken clamped. -/
theorem writeHeater_of_setpoint {bs : List Byte} {taken : Int} (hset : v.getD 1 none = some bs)
    (hguard : v.getD 11 none = none) (hclamp : clampInt 50 300 (intOf bs) = taken) :
    writeHeater v t = (.done, t.withSettings { t.settings with setpoint := taken }) := by
  simp only [writeHeater, codeWithin, numAt, hset, hguard, takeSetpoint, hclamp]
  rfl

/-- R132: zone A's last channel lies below zone B's first. -/
theorem writeChannel_of_bounds {i : Nat}
    (h : numAt v 8 t.settings.light.bounds.bFirst ≤ numAt v 7 t.settings.light.bounds.aLast) :
    writeChannel i v t = (.range, t) := by
  simp [writeChannel, LightSettings.valid, ZoneBounds.valid, Nat.not_lt.mpr h]

/-- R68: the marks list holds one value more than the electrodes counted. -/
theorem TankSettings.length_marks {m : TankSettings} (h : m.valid = true) : m.marks.length = m.count + 1 := by
  simp only [valid, Bool.and_eq_true, beq_iff_eq] at h
  obtain ⟨⟨-, hlength⟩, -⟩ := h
  exact hlength

/-- R68: a count written alone leaves a valid marks list with the wrong length, unless it is the count it has. -/
theorem writeTank_of_count {k : TankId} (hvalid : (t.settings.tank k).valid = true) (hmarks : v.getD 1 none = none)
    (hcount : numAt v 0 (t.settings.tank k).count ≠ (t.settings.tank k).count) : writeTank k v t = (.range, t) := by
  have hnew : ({ count := numAt v 0 (t.settings.tank k).count, marks := (t.settings.tank k).marks } :
      TankSettings).valid = false := by
    rw [← Bool.not_eq_true]
    intro h
    exact hcount (Nat.succ.inj ((TankSettings.length_marks h).symm.trans (TankSettings.length_marks hvalid)))
  simp only [writeTank, hmarks, hnew, Bool.not_false, if_true]

/-- R129: a clamped travel limit lies in its range, so that the stall threshold alone decides. -/
theorem MotionSettings.valid_clamped (limit : Nat) {threshold : Nat} (h : inRange 100 5000 threshold = true) :
    ({ travelLimit := clampNat 10 600 limit, stallThreshold := threshold } : MotionSettings).valid = true := by
  have hlimit : inRange 10 600 (clampNat 10 600 limit) = true := by
    rw [inRange, clampNat, Bool.and_eq_true]
    exact ⟨decide_eq_true (by omega), decide_eq_true (by omega)⟩
  rw [valid, hlimit, h, Bool.and_self]

theorem writeMotion_step {ls ts : List Byte} {limit threshold : Nat} (hlimit : v.getD 8 none = some ls)
    (hthreshold : v.getD 9 none = some ts) (hclamp : clampNat 10 600 (numOf ls) = limit) (hnum : numOf ts = threshold)
    (hrange : inRange 100 5000 threshold = true) :
    writeMotion .step v t
      = (.done, t.withSettings { t.settings with step := { travelLimit := limit, stallThreshold := threshold } }) := by
  have hvalid : ({ travelLimit := limit, stallThreshold := threshold } : MotionSettings).valid = true :=
    hclamp ▸ MotionSettings.valid_clamped _ hrange
  simp only [writeMotion, numAt, hlimit, hthreshold, hclamp, hnum, hvalid, if_true]

/-- R40, R180: a rating in range, written to an entry that is not OFF, is refused BUSY once the settings are judged. -/
theorem writeLoad_of_busy {i : Nat} (hclass : codeWithin v 2 4 = true)
    (hloads : (loadsOver v i t.settings.loads).valid = true) (hrating : (v.getD 3 none).isSome = true)
    (hstate : t.adm.entries[finOf 20 i (by decide)].state ≠ .off) :
    writeLoad i v t = (.busy, t) := by
  simp only [writeLoad, hclass, hloads, hrating, bne_iff_ne, Bool.and_true, Bool.not_true, Bool.or_true, Bool.true_and,
    Bool.false_eq_true, if_false, ne_eq, hstate, not_false_eq_true, if_true]

end

/-! ### A rating written alone -/

/-- A general entry's settings with another rating. -/
def GeneralSettings.withRating (g : GeneralSettings) (rating : Nat) : GeneralSettings := { g with rating := rating }

theorem GeneralSettings.withRating_valid {g : GeneralSettings} {rating : Nat} (h : g.valid = true) (hr : rating ≤ 2000) :
    (g.withRating rating).valid = true := by
  simp only [valid, Bool.and_eq_true] at h ⊢
  obtain ⟨⟨hclass, -⟩, hrank⟩ := h
  exact ⟨⟨hclass, by simp [withRating, inRange, hr]⟩, hrank⟩

/-- The LOAD settings with another rating of the general entry in place `k`. -/
def LoadSettings.withRating (l : LoadSettings) (k : Fin 13) (rating : Nat) : LoadSettings :=
  { l with general := l.general.set k (l.general[k].withRating rating) }

/-- The ranks in force, by the pairs of class and rank of the general entries. -/
theorem LoadSettings.ranksInForce_eq (l : LoadSettings) : l.ranksInForce =
    [l.rank1, l.rank3, l.rank5]
      ++ ((l.general.toList.map fun g => (g.cls, g.rank)).filter fun x => x.1 == .comfort).map (·.2) := by
  simp [ranksInForce, List.filter_map, Function.comp_def]

/-- R39: no rank comes into force or leaves it with a rating. -/
theorem LoadSettings.ranksInForce_withRating (l : LoadSettings) (k : Fin 13) (rating : Nat) :
    (l.withRating k rating).ranksInForce = l.ranksInForce := by
  have hpairs : (l.withRating k rating).general.toList.map (fun g => (g.cls, g.rank))
      = l.general.toList.map (fun g => (g.cls, g.rank)) := by
    apply List.ext_getElem
    · simp
    · intro n hn hn'
      by_cases h : k.val = n <;> simp [withRating, GeneralSettings.withRating, h]
  rw [ranksInForce_eq, hpairs, ranksInForce_eq]
  rfl

theorem LoadSettings.withRating_valid {l : LoadSettings} (k : Fin 13) {rating : Nat} (h : l.valid = true)
    (hr : rating ≤ 2000) : (l.withRating k rating).valid = true := by
  simp only [valid, Bool.and_eq_true, List.all_eq_true] at h ⊢
  obtain ⟨⟨hranks, hgeneral⟩, hdistinct⟩ := h
  refine ⟨⟨hranks, fun g hg => ?_⟩, by rwa [ranksInForce_withRating]⟩
  rw [withRating, Vector.toList_set] at hg
  rcases List.mem_or_eq_of_mem_set hg with hold | rfl
  · exact hgeneral g hold
  · exact GeneralSettings.withRating_valid (hgeneral _ (by simp)) hr

/-! ### The event -/

section
variable {p : PortId} {tag index : Byte} {c : RecClass} {mask : Half} {values : List Byte} {s : State} {st : Status}

theorem admits_write (hp : p ≠ .vehicle) : admits p .write = true := by
  cases p with
  | panel | remote => rfl
  | vehicle => exact absurd rfl hp

/-- A WRITE whose answer leaves the state as it is. -/
theorem writeEvent_unchanged (hopen : s.open_ p = true) (hp : p ≠ .vehicle) (hlength : values.length ≤ 44)
    (hwrite : ∀ f, writeRecord c index.toNat mask values (inService p f s) = (st, inService p f s)) :
    writeEvent c p tag index mask values s = .next (concluded p .write tag st [] s) := by
  refine request_answered p .write tag _ s st [] hopen (admits_write hp) (lenFits_writeBody ..)
    (length_writeBody_le _ _ _ hlength) ?_
  simp [deliver, plain, writeRequest_writeBody, hwrite]

/-- A WRITE whose owner takes its values into the settings and does no more. -/
theorem writeEvent_settings {x : Settings} (hopen : s.open_ p = true) (hp : p ≠ .vehicle) (hlength : values.length ≤ 44)
    (hwrite : ∀ f, writeRecord c index.toNat mask values (inService p f s) = (st, (inService p f s).withSettings x)) :
    writeEvent c p tag index mask values s = .next (concluded p .write tag st [] (s.withSettings x)) := by
  obtain ⟨-, hsettled, -⟩ := State.open_parts hopen
  refine request_left p .write tag _ s _ st [] hopen (admits_write hp) (lenFits_writeBody ..)
    (length_writeBody_le _ _ _ hlength) ?_ hsettled rfl
  simp [deliver, plain, writeRequest_writeBody, hwrite]

end

/-! ### The rows of R186 -/

section
variable {t : State}

/-- The field values of a record of `n` fields where a WRITE masks field `k` alone. -/
def onlyField (n k : Nat) (bytes : List Byte) : Values := (List.replicate n none).set k (some bytes)

theorem loadsOver_rating (bs : List Byte) (l : LoadSettings) :
    loadsOver (onlyField 11 3 bs) 9 l = l.withRating 2 (numOf bs) := rfl

theorem writeRecord_heater_setpoint (hsaving : t.saving = none) :
    writeRecord .heater 0 0x0002 [0x01, 0x5E] t = (.done, t.withSettings { t.settings with setpoint := 300 }) := by
  have hreach : reachesOwner .heater 0 0x0002 [0x01, 0x5E] (onlyField 15 1 [0x01, 0x5E]) := by decide
  rw [writeRecord_of_reachesOwner hreach hsaving]
  exact writeHeater_of_setpoint rfl rfl (by decide)

theorem writeRecord_heater_mode (a b c : Byte) : writeRecord .heater 0 0x0003 [a, b, c] t = (.readOnly, t) :=
  writeRecord_of_readOnly (by decide) (by decide) rfl (by decide)

theorem writeRecord_channel_bounds (hsaving : t.saving = none) :
    writeRecord .channel 0 0x03C0 [0, 5, 5, 11] t = (.range, t) := by
  have hreach : reachesOwner .channel 0 0x03C0 [0, 5, 5, 11]
      (List.replicate 6 none ++ [some [0], some [5], some [5], some [11]] ++ List.replicate 9 none) := by decide
  rw [writeRecord_of_reachesOwner hreach hsaving]
  exact writeChannel_of_bounds (Nat.le_refl 5)

theorem writeRecord_tank_count (hsaving : t.saving = none) (hvalid : t.settings.grey.valid = true)
    (hcount : t.settings.grey.count = 4) : writeRecord .tank 1 0x0001 [5] t = (.range, t) := by
  have hreach : reachesOwner .tank 1 0x0001 [5] (onlyField 8 0 [5]) := by decide
  rw [writeRecord_of_reachesOwner hreach hsaving]
  refine writeTank_of_count (k := .grey) hvalid rfl ?_
  rw [show (t.settings.tank .grey).count = 4 from hcount]
  decide

theorem writeRecord_motion_step (hsaving : t.saving = none) :
    writeRecord .motion 1 0x0300 [0x00, 0x04, 0x03, 0x84] t
      = (.done, t.withSettings { t.settings with step := { travelLimit := 10, stallThreshold := 900 } }) := by
  have hreach : reachesOwner .motion 1 0x0300 [0x00, 0x04, 0x03, 0x84]
      (List.replicate 8 none ++ [some [0x00, 0x04], some [0x03, 0x84]] ++ List.replicate 6 none) := by decide
  rw [writeRecord_of_reachesOwner hreach hsaving]
  rw [ownerWrite, if_neg Nat.one_ne_zero]
  exact writeMotion_step rfl rfl (by decide) (by decide) (by decide)

theorem writeRecord_load_granted (hsaving : t.saving = none) (hvalid : t.settings.loads.valid = true)
    (hgranted : t.adm.entries[(9 : Fin 20)].state = .granted) :
    writeRecord .load 9 0x0008 [0x01, 0xC2] t = (.busy, t) := by
  have hreach : reachesOwner .load 9 0x0008 [0x01, 0xC2] (onlyField 11 3 [0x01, 0xC2]) := by decide
  have hloads : (loadsOver (onlyField 11 3 [0x01, 0xC2]) 9 t.settings.loads).valid = true := by
    rw [loadsOver_rating]
    exact LoadSettings.withRating_valid 2 hvalid (by decide)
  have hstate : t.adm.entries[(9 : Fin 20)].state ≠ .off := by
    rw [hgranted]
    decide
  rw [writeRecord_of_reachesOwner hreach hsaving]
  exact writeLoad_of_busy rfl hloads rfl hstate

end

/-- What the rows of R186 read of the settings' validity. -/
theorem Settings.valid_loads_grey {x : Settings} (h : x.valid = true) : x.loads.valid = true ∧ x.grey.valid = true := by
  simp only [valid, Bool.and_eq_true] at h
  simp only [h, and_self]

/-- Settles O59: each row's verdict on the record, at the directory or at its owner, put into the event that answers it. -/
theorem writesJudgedAsListed : Obligations.WritesJudgedAsListed := by
  unfold Obligations.WritesJudgedAsListed
  intro p tag v s hopen hp hsaving hvalid
  obtain ⟨hloads, hgrey⟩ := Settings.valid_loads_grey hvalid
  have hserving (f : Frame) : (inService p f s).saving = none := by simp [hsaving]
  have hsame (f : Frame) : (inService p f s).settings = s.settings := by simp
  refine ⟨?setpoint, ?mode, ?bounds, ?noField, ?electrodes, ?motion, ?rating, ?noMask⟩
  case setpoint =>
    refine writeEvent_settings hopen hp (by decide) fun f => ?_
    rw [← hsame f]
    exact writeRecord_heater_setpoint (hserving f)
  case mode =>
    intro hlength
    match v, hlength with
    | [a, b, c], _ => exact writeEvent_unchanged hopen hp (by simp) fun f => writeRecord_heater_mode a b c
  case bounds => exact writeEvent_unchanged hopen hp (by decide) fun f => writeRecord_channel_bounds (hserving f)
  case noField =>
    intro hlength
    exact writeEvent_unchanged hopen hp (by omega) fun f => writeRecord_of_noField (by decide)
  case electrodes =>
    intro hcount
    exact writeEvent_unchanged hopen hp (by decide) fun f =>
      writeRecord_tank_count (hserving f) (by rwa [hsame]) (by rwa [hsame])
  case motion =>
    refine writeEvent_settings hopen hp (by decide) fun f => ?_
    rw [← hsame f]
    exact writeRecord_motion_step (hserving f)
  case rating =>
    intro hgranted
    exact writeEvent_unchanged hopen hp (by decide) fun f =>
      writeRecord_load_granted (hserving f) (by rwa [hsame]) (by simpa using hgranted)
  case noMask => exact writeEvent_unchanged hopen hp (by decide) fun f => writeRecord_zero (by decide)

end Sys2Proof.Machine
end
